-- ==== Sys2Proof/Word.lean ====
section
/-! DEFINITION. The word types of the part: bytes of the Hall Link and 32-bit station time. -/

namespace Sys2Proof

/-- One byte of a frame or record. -/
abbrev Byte := BitVec 8

/-- Station time: an unsigned 32-bit count of microseconds that wraps (00_scope.md, Station time). -/
abbrev Stamp := BitVec 32

/-- `a` precedes `b` when (b - a) modulo 2^32 is non-zero and less than 2^31 (00_scope.md, Station time). -/
def precedes (a b : Stamp) : Bool :=
  b - a ≠ 0 && decide ((b - a).toNat < 2 ^ 31)

/-- A counter that rises by one and holds its stated maximum (00_scope.md, Counters). -/
def countUp (maximum n : Nat) : Nat :=
  min maximum (n + 1)

end Sys2Proof
end

