-- ==== Sys2Proof/Config.lean ====
section
/-! DEFINITION. Numbers the manual fixes for the part, and the free values it leaves open. -/

namespace Sys2Proof.Config

/-- Milliseconds after which the flash clock returns to 0 (R52). -/
def flashPeriod : Nat := 11520
/-- Duration of a lamp test in milliseconds (R54). -/
def lampTestMs : Nat := 60000
/-- Duration of the key timer in milliseconds (R177). -/
def keyTimerMs : Nat := 1000
/-- Places of a transit FIFO (R149). -/
def transitPlaces : Nat := 4
/-- Response slots of a port (R154). -/
def responseSlots : Nat := 2
/-- Transit frames begun before a waiting own frame goes out (R152). -/
def forwardLimit : Nat := 4
/-- Records the Report Queue holds (R158). -/
def reportPlaces : Nat := 32
/-- Records one PANEL-REPORT carries at most (R159). -/
def reportsPerFrame : Nat := 8
/-- Maximum of the lost count and of a group's overflow count (00_scope.md, Counters). -/
def byteCounterMax : Nat := 255
/-- Maximum of a per-port counter (R146). -/
def portCounterMax : Nat := 65535
/-- Entries of an arrival list (R64). -/
def arrivalPlaces : Nat := 16
/-- Bytes of records one response holds (11.3). -/
def responseRecordBytes : Nat := 234
/-- Longest body of a frame (R144). -/
def maxBody : Nat := 240
/-- The warning temperature and the temperature at which HOT ends, in °C (R124). -/
def hotAbove : Int := 85
def hotEndsAt : Int := 75
/-- Supply thresholds in steps of 0.1 V (R134, R186). -/
def supplyLowBelow : Nat := 190
def supplyLowEndsAt : Nat := 195
def operationEndsBelow : Nat := 160
/-- Coil limits in milliohms: below 5 Ω SHORT, above 10 kΩ OPEN (R130). -/
def coilShortBelow : Nat := 5000
def coilOpenAbove : Nat := 10000000
/-- Equal samples, 1 ms apart, that make a debounced reading (R12; DESIGN CHOICE, log 17). -/
def debounceSamples : Nat := 10
/-- The sync byte (11.1). -/
def syncByte : Byte := 165

/-- FREE VALUE (log 9): at the n-th draw, whether the write of a store's valid mark, its write 3, has begun.
R184 lets that moment be any within the store, but for the instant of its acceptance (R189). -/
opaque finalWriteBegun : Nat → Bool

/-- FREE VALUE (log 8): at the n-th draw, whether a good frame joins its transit FIFO before the own frames that
the acting blocks make begin to wait. R147 gives the two no order. -/
opaque transitFirst : Nat → Bool

/-- FREE VALUE (log 10): at the n-th draw, whether the Trip Unit's start-up activations come before that of the
health feeder. R61 lets them be taken in either order. -/
opaque channelsFirst : Nat → Bool

end Sys2Proof.Config
end

