-- ==== Sys2Proof/Syntax.lean ====
section
/-! DEFINITION. The commands the part takes: one constructor per row of spec/opcode_table.json. -/

namespace Sys2Proof

/-- The two Hall Link ports. -/
inductive PortId
  | field
  | station
deriving DecidableEq, Repr

/-- A good frame, without its sync byte, LEN (the length of the body) and CRC, which a good frame's other
fields determine (R144, 11.1). -/
structure Frame where
  kind : Byte
  dest : Byte
  src  : Byte
  body : List Byte
deriving DecidableEq, Repr

/-- A good frame of a kind that the command names, and the port it arrived on. -/
structure LinkFrame where
  port : PortId
  dest : Byte
  src  : Byte
  body : List Byte
deriving DecidableEq, Repr

/-- A good CONSOLE-CMD frame of the right length whose command code the command names (R103, 11.2). -/
structure ConsoleFrame where
  port        : PortId
  dest        : Byte
  src         : Byte
  console     : Byte
  targetKind  : Byte
  targetIndex : Byte
deriving DecidableEq, Repr

/-- A good MGMT-REQ frame whose DEST is the panel address and whose request code the command names. `args` are the
bytes after the request code; for the eight WRITE rows of a configuration table, the bytes after the table byte,
which the row names (11.3). -/
structure Request where
  port : PortId
  src  : Byte
  id   : BitVec 16
  args : List Byte
deriving DecidableEq, Repr

/-- A two-valued process state (R15). -/
inductive Raw
  | clear
  | set
deriving DecidableEq, Repr

/-- What a lamp check finds at one element, judged by its own limits (R125; log 20). -/
inductive ElementReading
  | ok
  | opened
  | short
deriving DecidableEq, Repr

/-- The commands. -/
inductive Instr
  -- link frames
  | scanState (f : LinkFrame)
  | scanChange (f : LinkFrame)
  | unitStatus (f : LinkFrame)
  | timeMark (f : LinkFrame)
  | otherFrame (port : PortId) (f : Frame)
  -- console commands
  | ack (c : ConsoleFrame)
  | reset (c : ConsoleFrame)
  | silence (c : ConsoleFrame)
  | lampTestStart (c : ConsoleFrame)
  | lampTestStop (c : ConsoleFrame)
  | select (c : ConsoleFrame)
  | execute (c : ConsoleFrame)
  | cancel (c : ConsoleFrame)
  -- management requests
  | read (r : Request)
  | readNext (r : Request)
  | writePanel (r : Request)
  | writeSource (r : Request)
  | writePoint (r : Request)
  | writeWindow (r : Request)
  | writePalette (r : Request)
  | writeGroup (r : Request)
  | writeTrip (r : Request)
  | writeLampMask (r : Request)
  | writeReadOnlyTable (r : Request)
  | serviceOut (r : Request)
  | serviceIn (r : Request)
  | lockBlock (r : Request)
  | unlockBlock (r : Request)
  | lockAll (r : Request)
  | unlockAll (r : Request)
  | protect (r : Request)
  | freezeTrip (r : Request)
  | store (r : Request)
  | clearHealth (r : Request)
  | clearRefusal (r : Request)
  | setMode (r : Request)
  | status (r : Request)
  | resetKey (r : Request)
  | badRequestCode (port : PortId) (src : Byte) (body : List Byte)
  -- link events
  | crcFailure (port : PortId)
  | lengthFailure (port : PortId)
  | stallFailure (port : PortId)
  | lineSignallingFound (port : PortId)
  | portUp (port : PortId)
  | portDown (port : PortId)
  | transitFrameSent (port : PortId)
  | mgmtRspSent (port : PortId)
  | panelReportSent
  | transmitterFree (port : PortId)
  -- direct inputs and timers
  | debouncedReading (input : Fin 8) (reading : Raw)
  | freshnessTimerExpiry (entry : Fin 24)
  | delayTimerExpiry (point : Fin 256)
  | unitStatusTimeout
  | holdTimerExpiry
  | settleTimerExpiry (group : Fin 8)
  | pulseTimerExpiry (channel : Fin 8)
  | ageTimerExpiry
  | lampTestExpiry
  | keyTimerExpiry
  -- checks and measurements
  | lampCheck (window : Fin 96) (red green blue : ElementReading)
  | coilCheck (channel : Fin 8) (milliohms : Nat)
  | hotBegins (celsius : Int)
  | hotEnds (celsius : Int)
  | supplyLowBegins (tenths : Nat)
  | supplyLowEnds (tenths : Nat)
  -- store and resets
  | storeCompleted
  | freezeTripCompleted
  | patternResetStart
  | operationEnds
  | powerOnReset (addrA addrB addrC rate : Fin 4)
  | endOfReset (celsius : Int) (tenths : Nat)
  | temperatureMeasurement (celsius : Int)
  | supplyMeasurement (tenths : Nat)
deriving DecidableEq, Repr

end Sys2Proof
end

