-- ==== Sys2Proof/WellFormed.lean ====
section
/-! DEFINITION. What makes a command one that the part can meet: lengths within a frame, and contents that agree
with the row the command names. `exec` does not rest on this: it gives every term a next state. -/

namespace Sys2Proof

/-- A body fits in a frame (R144). -/
def bodyFits (body : List Byte) : Bool :=
  body.length ≤ Config.maxBody

/-- Request id, request code and arguments fit in a frame (11.2). -/
def Request.wf (r : Request) : Bool :=
  3 + r.args.length ≤ Config.maxBody

/-- As `Request.wf`, with the table byte that a WRITE row names. -/
def Request.writeWf (r : Request) : Bool :=
  4 + r.args.length ≤ Config.maxBody

/-- A temperature that the HEALTH record's byte, °C + 128, can carry (11.4). -/
def celsiusFits (t : Int) : Bool :=
  -128 ≤ t && t ≤ 127

/-- The kinds that an OTHER_FRAME may have: none of the four kinds a block always takes (R147). A CONSOLE-CMD is one
only with a wrong length or command code (R103), and a MGMT-REQ only when another panel is its destination,
which is judged as it arrives. -/
def Frame.mayBeOther (f : Frame) : Bool :=
  if 1 ≤ f.kind.toNat && f.kind.toNat ≤ 4 then false
  else if f.kind = 5 then
    match f.body with
    | [_, command, _, _] => !(1 ≤ command.toNat && command.toNat ≤ 8)
    | _ => true
  else true

/-- Whether a command is one the part can meet. -/
def Instr.wf : Instr → Bool
  | .scanState f | .scanChange f | .unitStatus f | .timeMark f => bodyFits f.body
  | .otherFrame _ f => bodyFits f.body && f.mayBeOther
  | .ack _ | .reset _ | .silence _ | .lampTestStart _ | .lampTestStop _ => true
  | .select _ | .execute _ | .cancel _ => true
  | .read r | .readNext r | .lockBlock r | .unlockBlock r | .lockAll r | .unlockAll r => r.wf
  | .protect r | .freezeTrip r | .store r | .clearHealth r | .clearRefusal r => r.wf
  | .setMode r | .status r | .resetKey r => r.wf
  | .writePanel r | .writeSource r | .writePoint r | .writeWindow r => r.writeWf
  | .writePalette r | .writeGroup r | .writeTrip r | .writeLampMask r => r.writeWf
  -- a WRITE without a table byte, or of a table that is not a configuration table (R191)
  | .writeReadOnlyTable r => r.wf && (match r.args with | [] => true | t :: _ => 8 ≤ t.toNat)
  -- the state byte of a SERVICE request is 1 for IN (11.1); every other SERVICE request is a SERVICE_OUT row
  | .serviceIn r => r.wf && (match r.args with | [_, st] => st = 1 | _ => false)
  | .serviceOut r => r.wf && (match r.args with | [_, st] => st ≠ 1 | _ => true)
  | .badRequestCode _ _ body =>
      bodyFits body && (match body with | _ :: _ :: code :: _ => code = 0 || 17 ≤ code.toNat | _ => true)
  | .crcFailure _ | .lengthFailure _ | .stallFailure _ | .lineSignallingFound _ => true
  | .portUp _ | .portDown _ | .transitFrameSent _ | .mgmtRspSent _ | .panelReportSent => true
  | .transmitterFree _ | .debouncedReading _ _ | .freshnessTimerExpiry _ | .delayTimerExpiry _ => true
  | .unitStatusTimeout | .holdTimerExpiry | .settleTimerExpiry _ | .pulseTimerExpiry _ => true
  | .ageTimerExpiry | .lampTestExpiry | .keyTimerExpiry | .lampCheck _ _ _ _ | .coilCheck _ _ => true
  | .hotBegins t => celsiusFits t && Config.hotAbove < t
  | .hotEnds t => celsiusFits t && t ≤ Config.hotEndsAt
  | .supplyLowBegins v => v < Config.supplyLowBelow
  | .supplyLowEnds v => Config.supplyLowEndsAt ≤ v && v < 2 ^ 16
  | .storeCompleted | .freezeTripCompleted | .patternResetStart | .operationEnds => true
  | .powerOnReset _ _ _ _ => true
  | .endOfReset t v => celsiusFits t && Config.operationEndsBelow ≤ v && v < 2 ^ 16
  | .temperatureMeasurement t => celsiusFits t
  | .supplyMeasurement v => v < 2 ^ 16

end Sys2Proof
end

