-- ==== Sys2Proof/Machine/State.lean ====
section
/-! DEFINITION. The state of the part as plain data, the reasons a step can stop, and the state after reset. -/

namespace Sys2Proof.Machine

/-! ## Values -/

/-- The seven unit modes; the effective mode UNKNOWN is `none` of an `Option Mode` (R25). -/
inductive Mode
  | standstill | starting | generate | pump | condense | stopping | isolated
deriving DecidableEq, Repr

/-- A set of modes as carried: a mode with code c weighs 2^(c-1) (chapter 11). -/
abbrev ModeSet := BitVec 7
/-- A set of health flags as carried: flag n weighs 2^n (chapter 11). -/
abbrev HealthSet := BitVec 11
/-- A set of groups as carried: group n weighs 2^n (chapter 11). -/
abbrev GroupSet := BitVec 8

/-- A timer in whole milliseconds of the part's own time base; `expired` is used by the freshness and unit-status
timers alone (R4, R25). -/
inductive Timer
  | stopped
  | running (ms : Nat)
  | expired
deriving DecidableEq, Repr

inductive Service | out | inn
deriving DecidableEq, Repr
inductive Polarity | alarmOnSet | alarmOnClear
deriving DecidableEq, Repr
inductive Quality | unseen | good | suspect | stale
deriving DecidableEq, Repr
inductive Condition | normal | onDelay | abnormal | offDelay
deriving DecidableEq, Repr
inductive ScannerStatus | unseen | tracking | gap
deriving DecidableEq, Repr
inductive ModeSource | snoop | set
deriving DecidableEq, Repr
inductive SequenceType | auto | manual
deriving DecidableEq, Repr
inductive WindowState | quiet | alert | held | clearWait
deriving DecidableEq, Repr
inductive Horn | off | sounding | silenced
deriving DecidableEq, Repr
inductive Pattern | dark | steady | fastFlash | slowFlash | firstOut
deriving DecidableEq, Repr
inductive GroupState | armed | settling | frozen
deriving DecidableEq, Repr
inductive StaleRule | holdLast | countTrip | countClear
deriving DecidableEq, Repr
inductive ChannelState | disarmed | armWait | ready | firing | lockout
deriving DecidableEq, Repr
inductive MatchMode | mask | pair | range
deriving DecidableEq, Repr
inductive Scheme | range | block
deriving DecidableEq, Repr
inductive Direction | top | bottom
deriving DecidableEq, Repr
inductive Lock | locked | unlocked
deriving DecidableEq, Repr
/-- The two faults a lamp or coil can read. -/
inductive FaultKind | opened | short
deriving DecidableEq, Repr
inductive CoilState | ok | opened | short
deriving DecidableEq, Repr
inductive PortStatus | down | training | up
deriving DecidableEq, Repr

/-- A target of select-before-operate (R110). -/
inductive Target
  | trip (channel : Fin 8)
  | group (group : Fin 8)
deriving DecidableEq, Repr

/-- A source of activity for a window (R41). -/
inductive Feeder
  | point (p : Fin 256)
  | channel (c : Fin 8)
  | health
deriving DecidableEq, Repr

/-! ## Configuration records -/

/-- The PANEL settings (R167). -/
structure Panel where
  unitNumber    : Nat
  matchMode     : MatchMode
  matchMask     : Byte
  aliasAddress  : Byte
  rangeLow      : Byte
  rangeHigh     : Byte
  healthWindow  : Fin 96
  healthMasks   : HealthSet
  testColour    : Fin 8
  modeHoldMs    : Nat
  unitTimeoutS  : Nat
  modeSource    : ModeSource
  selectionAgeS : Nat
  globalDim     : Byte
  scheme        : Scheme
  level         : Nat
  direction     : Direction
deriving DecidableEq, Repr

/-- A non-empty Source Map entry (R1). -/
structure SourceEntry where
  scanner      : Fin 32
  firstChannel : Nat
  count        : Nat
  firstPoint   : Nat
  periodMs     : Nat
  multiple     : Nat
deriving DecidableEq, Repr

/-- A point record (R14). -/
structure PointRecord where
  service  : Service
  polarity : Polarity
  onDelay  : Nat
  offDelay : Nat
  window   : Option (Fin 96)
  group    : Option (Fin 8)
  inhibit  : ModeSet
  votes    : List (Fin 8)
deriving DecidableEq, Repr

/-- A window record (R39). -/
structure WindowRecord where
  sequence       : SequenceType
  horn           : Bool
  normalColour   : Fin 8
  firstOutColour : Fin 8
  brightness     : Byte
deriving DecidableEq, Repr

/-- A palette entry (R122). -/
structure Colour where
  red   : Byte
  green : Byte
  blue  : Byte
deriving DecidableEq, Repr

/-- A group record (R62). -/
structure GroupRecord where
  settleMs : Nat
  enable   : Bool
deriving DecidableEq, Repr

/-- A channel record (R80). -/
structure TripRecord where
  required : Nat
  permits  : ModeSet
  stale    : StaleRule
  pulseMs  : Nat
  window   : Option (Fin 96)
  enable   : Bool
deriving DecidableEq, Repr

/-- The eight configuration tables (R167). `lampMask` is true for MASKED. -/
structure Tables where
  panel    : Panel
  source   : Vector (Option SourceEntry) 24
  point    : Vector PointRecord 256
  window   : Vector WindowRecord 96
  palette  : Vector Colour 8
  group    : Vector GroupRecord 8
  trip     : Vector TripRecord 8
  lampMask : Vector Bool 96
deriving DecidableEq, Repr

/-! ## Nonvolatile state -/

/-- What FREEZE-TRIP writes into the one-time trip area (R176). -/
structure TripArea where
  trip  : Vector TripRecord 8
  votes : Vector (List (Fin 8)) 256
deriving DecidableEq, Repr

/-- The Configuration Store (R182, R183). `markValid` is the validity mark; `checkAgrees`, whether the check value it
carries agrees with the image as read (log 23). `tripArea` is absent while the area counts as unwritten.
`lockout` is true for SET. -/
structure Nonvolatile where
  image       : Tables
  markValid   : Bool
  checkAgrees : Bool
  tripArea    : Option TripArea
  frozen      : Bool
  lockout     : Vector Bool 8
deriving DecidableEq, Repr

/-! ## Dynamic state of the blocks -/

/-- A point's dynamic state (R15). -/
structure Point where
  raw         : Option Raw
  quality     : Quality
  condition   : Condition
  delay       : Timer
  changeStamp : Option Stamp
  alarmStamp  : Option Stamp
deriving DecidableEq, Repr

/-- The dynamic state of a Source Map entry (R4). -/
structure EntryState where
  freshness  : Timer
  gapPending : Bool
deriving DecidableEq, Repr

/-- A scanner's tracking record (R4). -/
structure Scanner where
  last   : Option Byte
  status : ScannerStatus
deriving DecidableEq, Repr

/-- A direct input: its last debounced reading, and the level and run of equal samples being debounced (R12). -/
structure DirectInput where
  reading : Option Raw
  level   : Option Raw
  run     : Nat
deriving DecidableEq, Repr

/-- The Mode Tracker's dynamic state (R25). -/
structure ModeTracker where
  effective : Option Mode
  lastKnown : Option Mode
  held      : Option Mode
  hold      : Timer
  unitTimer : Timer
deriving DecidableEq, Repr

/-- A window's dynamic state (R41, R43, R51). The feeders stand in one order, each at most once. -/
structure Window where
  state   : WindowState
  feeders : List Feeder
  markers : GroupSet
deriving DecidableEq, Repr

/-- An entry of an arrival list (R64). -/
structure Entry where
  point : Fin 256
  stamp : Stamp
  late  : Bool
deriving DecidableEq, Repr

/-- A first-out group's dynamic state (R64). -/
structure FoGroup where
  state    : GroupState
  entries  : List Entry
  origin   : Option Stamp
  overflow : Nat
  settle   : Timer
  marker   : Option (Fin 96)
deriving DecidableEq, Repr

/-- An entry of a voter table (R83). -/
structure Voter where
  point     : Fin 256
  condition : Condition
  quality   : Quality
deriving DecidableEq, Repr

/-- A trip channel's dynamic state (R83 to R89). -/
structure Channel where
  state  : ChannelState
  voters : List Voter
  count  : Nat
  permit : Bool
  pulse  : Timer
deriving DecidableEq, Repr

/-- A coil's state and its run of equal readings (R130). -/
structure Coil where
  state : CoilState
  run   : Option (CoilState × Nat)
deriving DecidableEq, Repr

/-- An entry of the lamp fault list (R126). Its count stands at 1 or 2: a run that reaches 3 is absent at once (log 30). -/
structure Lamp where
  fault : Option FaultKind
  run   : Option (FaultKind × Nat)
deriving DecidableEq, Repr

/-- The Health Monitor and its two measurements (R124, R133, R134, R137). Derate is on while `hot` (R124). -/
structure Health where
  flags     : HealthSet
  feeder    : Bool
  hot       : Bool
  supplyLow : Bool
  celsius   : Int
  tenths    : Nat
deriving DecidableEq, Repr

/-- A held selection; its age timer runs (R110). -/
structure Selection where
  console : Byte
  target  : Target
  age     : Timer
deriving DecidableEq, Repr

/-! ## Link side -/

/-- A response slot that is not EMPTY (R154): RESERVED for a request, or FILLED with its MGMT-RSP frame. `key` marks the
response to the fourth key of a reset pattern (R178). -/
inductive Slot
  | reserved (id : BitVec 16) (src : Byte)
  | filled (frame : Frame) (key : Bool)
deriving DecidableEq, Repr

/-- What a port's transmitter does: free and sending idle symbols, in the minimum gap after a frame, or sending the
transit head, the oldest response, or a PANEL-REPORT of the oldest `count` records carrying `lost` (R152, R159). -/
inductive Transmitter
  | free
  | gap
  | transit
  | response
  | report (count lost : Nat)
deriving DecidableEq, Repr

/-- What a port's receiver finds in one byte time (R141). -/
inductive Symbol
  | data (b : Byte)
  | idle
  | absent
deriving DecidableEq, Repr

/-- Where an UP port's receiver stands (R144, R145): after an idle symbol, passing over symbols until the next idle
symbol, or inside a frame with its bytes so far and the run of byte times without a symbol. -/
inductive Reception
  | afterIdle
  | skipping
  | frame (bytes : List Byte) (stall : Nat)
deriving DecidableEq, Repr

/-- A port's receiver: the run of idle symbols and of byte times without a symbol (R142), and the reception. -/
structure Receiver where
  idleRun   : Nat
  silentRun : Nat
  reception : Reception
deriving DecidableEq, Repr

/-- A port, its counters (R146), the transit FIFO and the response slots toward it, oldest first (R149, R154), and its
arbiter and transmitter (R151, R152). `justUp` holds from its going UP until time passes or a frame has left: its arbiter's
first choice is still open to a frame that falls together with it (R161; DESIGN CHOICE, log 34). -/
structure Port where
  status     : PortStatus
  crc        : Nat
  length     : Nat
  stall      : Nat
  overflow   : Nat
  unanswered : Nat
  fifo       : List Frame
  slots      : List Slot
  forwarded  : Nat
  tx         : Transmitter
  justUp     : Bool
  rx         : Receiver
deriving DecidableEq, Repr

/-! ## Reports -/

inductive SelectionEvent | selected | replaced | cancelled | expired
deriving DecidableEq, Repr
inductive RefusalReason | badTarget | noSelection | mismatch | conditionPresent | firing | notLocked
deriving DecidableEq, Repr
inductive StoreOutcome | stored | abandoned
deriving DecidableEq, Repr

/-- The kinds of report record with subject, value and detail (R157). -/
inductive ReportBody
  | window (w : Fin 96) (state : WindowState)
  | trip (c : Fin 8) (state : ChannelState)
  | group (g : Fin 8) (state : GroupState)
  | health (flag : Fin 11) (set : Bool)
  | mode (effective : Option Mode)
  | service (p : Fin 256) (service : Service)
  | selection (console : Byte) (event : SelectionEvent) (target : Target)
  | commandRefused (console : Byte) (reason : RefusalReason) (command targetKind targetIndex : Byte)
  | coil (c : Fin 8) (state : CoilState)
  | store (outcome : StoreOutcome)
deriving DecidableEq, Repr

/-- A report record: its content and the Station Clock at its event (R157). -/
structure Report where
  body : ReportBody
  time : Stamp
deriving DecidableEq, Repr

/-! ## Management Unit -/

/-- The results of a request (R164, 11.3). -/
inductive ResultCode
  | done | busy | refusedProtected | refusedInService | refusedFrozen | refusedMaintenance | refusedActive
  | badTable | badIndex | badValue | badLength
deriving DecidableEq, Repr

/-- The sixteen tables (R167). -/
inductive TableId
  | panel | source | point | window | palette | group | trip | lampMask
  | pointState | windowState | groupList | tripState | scanner | health | lampFault | counters
deriving DecidableEq, Repr

/-- The last refusal record (R166). -/
structure LastRefusal where
  request : Byte
  table   : Option Byte
  index   : Option Byte
  result  : ResultCode
deriving DecidableEq, Repr

/-- How far a STORE in flight has come: at the instant of its acceptance, whose write 3 has not begun (R189); later, while it
is not known whether write 3 has begun (log 9); and with write 3 known to have begun. -/
inductive StoreStage
  | accepted
  | writing
  | final
deriving DecidableEq, Repr

/-- A STORE or FREEZE-TRIP in flight with the values of its acceptance (R176, R184). The two are never in flight together
(R165). -/
inductive Flight
  | store (values : Tables) (stage : StoreStage)
  | freeze (values : TripArea)
deriving DecidableEq, Repr

/-- The Management Unit (R166, R169, R173, R177, R178, R181). `pendingReset` is present while a pattern reset is pending,
and holds whether the fourth key's response has still to leave the part. -/
structure Management where
  readTable    : TableId
  readIndex    : Nat
  readCount    : Nat
  lastRefusal  : Option LastRefusal
  keyProgress  : Nat
  keyTimer     : Timer
  pendingReset : Option Bool
  flight       : Option Flight
  locks        : Vector Lock 16
deriving DecidableEq, Repr

/-! ## The whole part -/

inductive ResetKind | powerOn | pattern
deriving DecidableEq, Repr

/-- Running, in a reset before its end (R187), or with operation ended for want of supply (R186). -/
inductive Phase
  | running
  | inReset (kind : ResetKind)
  | off
deriving DecidableEq, Repr

/-- The straps as latched at power-on reset (R183). -/
structure Straps where
  addrA : Fin 4
  addrB : Fin 4
  addrC : Fin 4
  rate  : Fin 4
deriving DecidableEq, Repr

/-- The state of the part, and the queue of waiting commands. -/
structure State where
  pending    : List Instr
  freeDraws  : Nat
  phase      : Phase
  straps     : Straps
  clock      : Stamp
  msPhase    : Nat
  flash      : Nat
  tables     : Tables
  nv         : Nonvolatile
  points     : Vector Point 256
  entries    : Vector EntryState 24
  scanners   : Vector Scanner 31
  inputs     : Vector DirectInput 8
  mode       : ModeTracker
  windows    : Vector Window 96
  lampTest   : Timer
  horn       : Horn
  groups     : Vector FoGroup 8
  channels   : Vector Channel 8
  coils      : Vector Coil 8
  lamps      : Vector Lamp 96
  health     : Health
  selection  : Option Selection
  field      : Port
  station    : Port
  reports    : List Report
  lost       : Nat
  management : Management
deriving DecidableEq, Repr

/-- The part never stops with a fault: every request, command, frame and event has an outcome in the manual.
No constructor, so no one raises one (safe). -/
inductive Fault
deriving DecidableEq, Repr

/-- Why a command has no next state. -/
inductive Refusal
  /-- Raised by `exec` alone, for a command whose meaning is not written; no command is one (safe). -/
  | notModelled (mnemonic : String)
deriving DecidableEq, Repr

/-! ## Reset values -/

/-- The default settings and tables of R187, step 3. -/
def Panel.default : Panel :=
  { unitNumber := 1, matchMode := .mask, matchMask := 63, aliasAddress := 0, rangeLow := 0, rangeHigh := 63,
    healthWindow := 95, healthMasks := 0, testColour := 2, modeHoldMs := 2000, unitTimeoutS := 5,
    modeSource := .snoop, selectionAgeS := 10, globalDim := 255, scheme := .block, level := 0, direction := .top }

def PointRecord.default : PointRecord :=
  { service := .out, polarity := .alarmOnSet, onDelay := 0, offDelay := 0, window := none, group := none,
    inhibit := 0, votes := [] }

def WindowRecord.default : WindowRecord :=
  { sequence := .manual, horn := true, normalColour := 0, firstOutColour := 1, brightness := 255 }

def Colour.off : Colour := ⟨0, 0, 0⟩

def Tables.default : Tables :=
  { panel := Panel.default
    source := Vector.replicate 24 none
    point := Vector.replicate 256 PointRecord.default
    window := Vector.replicate 96 WindowRecord.default
    palette := #v[⟨255, 176, 0⟩, ⟨255, 0, 0⟩, ⟨255, 255, 255⟩, Colour.off, Colour.off, Colour.off, Colour.off, Colour.off]
    group := Vector.replicate 8 { settleMs := 50, enable := false }
    trip := Vector.replicate 8
      { required := 1, permits := 0, stale := .holdLast, pulseMs := 100, window := none, enable := false }
    lampMask := Vector.replicate 96 false }

/-- The Configuration Store as the part leaves the factory (R182). -/
def Nonvolatile.factory : Nonvolatile :=
  { image := Tables.default, markValid := false, checkAgrees := false, tripArea := none, frozen := false,
    lockout := Vector.replicate 8 false }

def Point.atReset : Point :=
  { raw := none, quality := .unseen, condition := .normal, delay := .stopped, changeStamp := none, alarmStamp := none }

def FoGroup.atReset : FoGroup :=
  { state := .armed, entries := [], origin := none, overflow := 0, settle := .stopped, marker := none }

def Channel.atReset : Channel :=
  { state := .disarmed, voters := [], count := 0, permit := false, pulse := .stopped }

/-- A port after reset (R162). Its receiver holds no frame and no run, and stands as after an idle symbol (DESIGN CHOICE,
log 32). -/
def Port.atReset : Port :=
  { status := .down, crc := 0, length := 0, stall := 0, overflow := 0, unanswered := 0, fifo := [], slots := [],
    forwarded := 0, tx := .free, justUp := false, rx := { idleRun := 0, silentRun := 0, reception := .afterIdle } }

def Management.atReset : Management :=
  { readTable := .pointState, readIndex := 0, readCount := 1, lastRefusal := none, keyProgress := 0,
    keyTimer := .stopped, pendingReset := none, flight := none, locks := Vector.replicate 16 .locked }

/-- The part when a power-on reset of a factory part has taken its reset values (R23, R38, R60, R79, R102, R121, R140,
R162, R181, R187). The next event is END_OF_RESET, which starts the clocks and sets the flags (log 1). The HOT and SUPPLY-LOW conditions are
absent and their readings 0 until the first readings (DESIGN CHOICE, log 3). -/
def State.reset : State :=
  { pending := []
    freeDraws := 0
    phase := .inReset .powerOn
    straps := { addrA := 0, addrB := 0, addrC := 0, rate := 0 }
    clock := 0
    msPhase := 0
    flash := 0
    tables := Tables.default
    nv := Nonvolatile.factory
    points := Vector.replicate 256 Point.atReset
    entries := Vector.replicate 24 { freshness := .stopped, gapPending := false }
    scanners := Vector.replicate 31 { last := none, status := .unseen }
    inputs := Vector.replicate 8 { reading := none, level := none, run := 0 }
    mode := { effective := none, lastKnown := none, held := none, hold := .stopped, unitTimer := .stopped }
    windows := Vector.replicate 96 { state := .quiet, feeders := [], markers := 0 }
    lampTest := .stopped
    horn := .off
    groups := Vector.replicate 8 FoGroup.atReset
    channels := Vector.replicate 8 Channel.atReset
    coils := Vector.replicate 8 { state := .ok, run := none }
    lamps := Vector.replicate 96 { fault := none, run := none }
    health := { flags := 0, feeder := false, hot := false, supplyLow := false, celsius := 0, tenths := 0 }
    selection := none
    field := Port.atReset
    station := Port.atReset
    reports := []
    lost := 0
    management := Management.atReset }

end Sys2Proof.Machine
end

