-- ==== Sys2Proof/Machine/Bytes.lean ====
section
/-! DEFINITION. Byte order, sets as weights, the codes of 11.1 and the frame on the line with its CRC. -/

namespace Sys2Proof.Machine

/-! ## Numbers as bytes, most significant byte first (chapter 11) -/

def byteOf (n : Nat) : Byte := BitVec.ofNat 8 n

def bytes16 (n : Nat) : List Byte := [byteOf (n / 256), byteOf n]

def bytes32 (t : Stamp) : List Byte :=
  [byteOf (t.toNat / 2 ^ 24), byteOf (t.toNat / 2 ^ 16), byteOf (t.toNat / 2 ^ 8), byteOf t.toNat]

def word16 (hi lo : Byte) : Nat := hi.toNat * 256 + lo.toNat

def word32 (b3 b2 b1 b0 : Byte) : Stamp :=
  BitVec.ofNat 32 (((b3.toNat * 256 + b2.toNat) * 256 + b1.toNat) * 256 + b0.toNat)

/-- A stamp that may be absent: a presence byte and four bytes (chapter 11). -/
def stampField : Option Stamp → List Byte
  | none => [0, 0, 0, 0, 0]
  | some t => 1 :: bytes32 t

/-- A one-byte index that may be absent (chapter 11). -/
def indexField : Option Nat → Byte
  | none => 255
  | some n => byteOf n

def flagByte (b : Bool) : Byte := if b then 1 else 0

/-- `n` as an index below `k`, when it is one. -/
def index? (k n : Nat) : Option (Fin k) :=
  if h : n < k then some ⟨n, h⟩ else none

/-- A two-valued field: `zero` for 0, `one` for 1, nothing else (11.1). -/
def twoValued {α : Type} (b : Byte) (zero one : α) : Option α :=
  if b = 0 then some zero else if b = 1 then some one else none

/-- An index field below `k` whose 255 means absent (R191): nothing when the value is neither. -/
def absentOr (k : Nat) (b : Byte) : Option (Option (Fin k)) :=
  if b = 255 then some none else (index? k b.toNat).map some

/-! ## Sets as sums of weights -/

def inSet {n : Nat} (s : BitVec n) (i : Nat) : Bool := s.getLsbD i

def addToSet {n : Nat} (s : BitVec n) (i : Nat) : BitVec n := s ||| BitVec.twoPow n i

def dropFromSet {n : Nat} (s : BitVec n) (i : Nat) : BitVec n := s &&& ~~~(BitVec.twoPow n i)

/-- The weight sum of the members of 0 to n-1 that `f` names. -/
def weights (n : Nat) (f : Nat → Bool) : Nat :=
  (List.range n).foldl (fun acc i => if f i then acc + 2 ^ i else acc) 0

/-! ## Codes (11.1) -/

def Mode.code : Mode → Nat
  | .standstill => 1 | .starting => 2 | .generate => 3 | .pump => 4
  | .condense => 5 | .stopping => 6 | .isolated => 7

/-- The mode of a code; codes 0 and 8 to 255 name none (R190). -/
def Mode.ofCode (b : Byte) : Option Mode :=
  if b = 1 then some .standstill else if b = 2 then some .starting else if b = 3 then some .generate
  else if b = 4 then some .pump else if b = 5 then some .condense else if b = 6 then some .stopping
  else if b = 7 then some .isolated else none

/-- Membership of a mode in a mode set (chapter 11). -/
def ModeSet.has (s : ModeSet) (m : Mode) : Bool := inSet s (m.code - 1)

/-- The code of an effective mode, UNKNOWN being 0. -/
def effectiveCode : Option Mode → Byte
  | none => 0
  | some m => byteOf m.code

/-- The code of a mode where it may be absent. -/
def absentModeCode : Option Mode → Byte
  | none => 255
  | some m => byteOf m.code

def Timer.code : Timer → Byte
  | .stopped => 0 | .running _ => 1 | .expired => 2

def Timer.isRunning : Timer → Bool
  | .running _ => true
  | _ => false

/-- A running timer has run out, and its expiry is to be taken (log 5). -/
def Timer.isDue (t : Timer) : Bool := t = .running 0

/-- Milliseconds left, 0 when not running. -/
def Timer.left : Timer → Nat
  | .running n => n
  | _ => 0

/-- Seconds left, rounded up (R59, R120). -/
def Timer.leftSeconds (t : Timer) : Nat := (t.left + 999) / 1000

def Service.code : Service → Byte | .out => 0 | .inn => 1
def Polarity.code : Polarity → Byte | .alarmOnSet => 0 | .alarmOnClear => 1
def Quality.code : Quality → Byte | .unseen => 0 | .good => 1 | .suspect => 2 | .stale => 3
def Condition.code : Condition → Byte | .normal => 0 | .onDelay => 1 | .abnormal => 2 | .offDelay => 3
def ScannerStatus.code : ScannerStatus → Byte | .unseen => 0 | .tracking => 1 | .gap => 2
def ModeSource.code : ModeSource → Byte | .snoop => 0 | .set => 1
def SequenceType.code : SequenceType → Byte | .auto => 0 | .manual => 1
def WindowState.code : WindowState → Byte | .quiet => 0 | .alert => 1 | .held => 2 | .clearWait => 3
def Horn.code : Horn → Byte | .off => 0 | .sounding => 1 | .silenced => 2
def Pattern.code : Pattern → Byte | .dark => 0 | .steady => 1 | .fastFlash => 2 | .slowFlash => 3 | .firstOut => 4
def GroupState.code : GroupState → Byte | .armed => 0 | .settling => 1 | .frozen => 2
def StaleRule.code : StaleRule → Byte | .holdLast => 0 | .countTrip => 1 | .countClear => 2
def ChannelState.code : ChannelState → Byte
  | .disarmed => 0 | .armWait => 1 | .ready => 2 | .firing => 3 | .lockout => 4
def MatchMode.code : MatchMode → Byte | .mask => 0 | .pair => 1 | .range => 2
def Scheme.code : Scheme → Byte | .range => 0 | .block => 1
def Direction.code : Direction → Byte | .top => 0 | .bottom => 1
def FaultKind.code : FaultKind → Byte | .opened => 1 | .short => 2
def CoilState.code : CoilState → Byte | .ok => 0 | .opened => 1 | .short => 2
def PortStatus.code : PortStatus → Byte | .down => 0 | .training => 1 | .up => 2
def rawCode : Raw → Byte | .clear => 0 | .set => 1

def ResultCode.code : ResultCode → Byte
  | .done => 0 | .busy => 1 | .refusedProtected => 2 | .refusedInService => 3 | .refusedFrozen => 4
  | .refusedMaintenance => 5 | .refusedActive => 6 | .badTable => 7 | .badIndex => 8 | .badValue => 9 | .badLength => 10

def RefusalReason.code : RefusalReason → Byte
  | .badTarget => 1 | .noSelection => 2 | .mismatch => 3 | .conditionPresent => 4 | .firing => 5 | .notLocked => 6

def SelectionEvent.code : SelectionEvent → Byte | .selected => 1 | .replaced => 2 | .cancelled => 3 | .expired => 4
def StoreOutcome.code : StoreOutcome → Byte | .stored => 1 | .abandoned => 2

def TableId.code : TableId → Byte
  | .panel => 0 | .source => 1 | .point => 2 | .window => 3 | .palette => 4 | .group => 5 | .trip => 6 | .lampMask => 7
  | .pointState => 8 | .windowState => 9 | .groupList => 10 | .tripState => 11 | .scanner => 12 | .health => 13
  | .lampFault => 14 | .counters => 15

def TableId.all : List TableId :=
  [.panel, .source, .point, .window, .palette, .group, .trip, .lampMask,
   .pointState, .windowState, .groupList, .tripState, .scanner, .health, .lampFault, .counters]

/-- The table of a code (11.3). -/
def TableId.ofCode (b : Byte) : Option TableId := TableId.all[b.toNat]?

/-- The number of records of a table (R167). -/
def TableId.size : TableId → Nat
  | .panel => 1 | .source => 24 | .point => 256 | .window => 96 | .palette => 8 | .group => 8 | .trip => 8
  | .lampMask => 96 | .pointState => 256 | .windowState => 96 | .groupList => 8 | .tripState => 8 | .scanner => 31
  | .health => 1 | .lampFault => 96 | .counters => 2

/-- The bytes of one record of a table (11.4). -/
def TableId.recordBytes : TableId → Nat
  | .panel => 19 | .source => 7 | .point => 14 | .window => 5 | .palette => 3 | .group => 2 | .trip => 7
  | .lampMask => 1 | .pointState => 17 | .windowState => 8 | .groupList => 107 | .tripState => 10 | .scanner => 76
  | .health => 13 | .lampFault => 5 | .counters => 15

/-- Kind and index of a target (11.1). -/
def Target.kind : Target → Byte | .trip _ => 3 | .group _ => 4
def Target.index : Target → Byte | .trip c => byteOf c.val | .group g => byteOf g.val

/-- The target that a kind and index name, when they name a channel or a group. -/
def Target.of (kind index : Byte) : Option Target :=
  if kind = 3 then (index? 8 index.toNat).map .trip
  else if kind = 4 then (index? 8 index.toNat).map .group
  else none

/-! ## The frame on the line -/

/-- One bit of the CRC of 11.1: generator x^16 + x^12 + x^5 + 1, most significant bit first. -/
def crcBit (crc : BitVec 16) (bit : Bool) : BitVec 16 :=
  if crc.getLsbD 15 != bit then (crc <<< 1) ^^^ 0x1021 else crc <<< 1

def crcByte (crc : BitVec 16) (b : Byte) : BitVec 16 :=
  [7, 6, 5, 4, 3, 2, 1, 0].foldl (fun acc i => crcBit acc (b.getLsbD i)) crc

/-- The check value over a run of bytes, starting from 65,535 (11.1). -/
def crcOf (bs : List Byte) : BitVec 16 := bs.foldl crcByte 0xFFFF

/-- KIND, DEST, SRC, LEN and body: what the CRC covers (R144). -/
def frameCovered (f : Frame) : List Byte :=
  f.kind :: f.dest :: f.src :: byteOf f.body.length :: f.body

/-- The bytes after the sync byte, CRC last, high byte first (R144, 11.1). -/
def frameBytes (f : Frame) : List Byte := frameCovered f ++ bytes16 (crcOf (frameCovered f)).toNat

/-- The whole frame on the line (R144). -/
def frameOnLine (f : Frame) : List Byte := Config.syncByte :: frameBytes f

/-- The outcome of the checks of a closed frame (R145). -/
inductive FrameCheck
  | good (f : Frame)
  | lengthFailure
  | crcFailure
deriving DecidableEq, Repr

/-- The checks of a closed frame's bytes after its sync byte, length first (R145). -/
def checkFrame (bs : List Byte) : FrameCheck :=
  match bs with
  | kind :: dest :: src :: len :: rest =>
    if Config.maxBody < len.toNat then .lengthFailure
    else if rest.length ≠ len.toNat + 2 then .lengthFailure
    else
      let f : Frame := { kind, dest, src, body := rest.take len.toNat }
      if rest.drop len.toNat = bytes16 (crcOf (kind :: dest :: src :: len :: f.body)).toNat then .good f
      else .crcFailure
  | _ => .lengthFailure

/-! ## Report records as carried (11.2) -/

def ReportBody.fields : ReportBody → List Byte
  | .window w st => [1, byteOf w.val, st.code, 0, 0, 0]
  | .trip c st => [2, byteOf c.val, st.code, 0, 0, 0]
  | .group g st => [3, byteOf g.val, st.code, 0, 0, 0]
  | .health n set => [4, byteOf n.val, flagByte set, 0, 0, 0]
  | .mode m => [5, 0, effectiveCode m, 0, 0, 0]
  | .service p sv => [6, byteOf p.val, sv.code, 0, 0, 0]
  | .selection con ev t => [7, con, ev.code, t.kind, t.index, 0]
  | .commandRefused con why cmd kind index => [8, con, why.code, cmd, kind, index]
  | .coil c st => [9, byteOf c.val, st.code, 0, 0, 0]
  | .store o => [10, 0, o.code, 0, 0, 0]

/-- The ten bytes of a report record (11.2). -/
def Report.bytes (r : Report) : List Byte := r.body.fields ++ bytes32 r.time

end Sys2Proof.Machine
end

