-- ==== Sys2Proof/Machine/Ops.lean ====
section
/-! DEFINITION. Shared operations: indexed updates, ports, the Report Queue, windows and the horn, and the part's outputs. -/

namespace Sys2Proof.Machine

/-- Replace the `i`-th of a fixed number of like things. -/
def upd {α : Type} {n : Nat} (v : Vector α n) (i : Fin n) (f : α → α) : Vector α n :=
  v.set i.val (f v[i]) i.isLt

/-- Apply an operation for each of a list of things, in order. -/
def forEach {α : Type} (xs : List α) (f : α → State → State) (s : State) : State :=
  xs.foldl (fun t x => f x t) s

/-- The indices 0 to n-1 in ascending order. -/
def ascending (n : Nat) : List (Fin n) := List.finRange n

/-! ## The part -/

/-- The panel address of the latched straps (R183). -/
def State.panelAddress (s : State) : Byte :=
  byteOf (16 * s.straps.addrA.val + 4 * s.straps.addrB.val + s.straps.addrC.val)

/-- The bit rate of the latched RATE strap in kbit/s (R183). -/
def State.bitRate (s : State) : Nat := 2500 * 2 ^ s.straps.rate.val

def otherPort : PortId → PortId
  | .field => .station
  | .station => .field

def State.port (s : State) : PortId → Port
  | .field => s.field
  | .station => s.station

def State.modPort (s : State) (p : PortId) (f : Port → Port) : State :=
  match p with
  | .field => { s with field := f s.field }
  | .station => { s with station := f s.station }

/-! ## The Report Queue (R158) -/

/-- Offer a record to the Report Queue, with the Station Clock as its time (R157, R158). -/
def State.emit (s : State) (body : ReportBody) : State :=
  if s.reports.length < Config.reportPlaces then { s with reports := s.reports ++ [{ body, time := s.clock }] }
  else { s with lost := countUp Config.byteCounterMax s.lost }

/-! ## Windows and the horn (chapter 3) -/

def Feeder.rank : Feeder → Nat
  | .point p => p.val
  | .channel c => 256 + c.val
  | .health => 264

/-- Add a feeder to an active feeder set, once, in the set's one order (R41). -/
def joinFeeder (f : Feeder) : List Feeder → List Feeder
  | [] => [f]
  | g :: rest => if f = g then g :: rest else if f.rank < g.rank then f :: g :: rest else g :: joinFeeder f rest

/-- Take a feeder out of an active feeder set. -/
def leaveFeeder (f : Feeder) (l : List Feeder) : List Feeder := l.filter (fun g => g ≠ f)

def State.modWindow (s : State) (w : Fin 96) (f : Window → Window) : State :=
  { s with windows := upd s.windows w f }

/-- Some window with horn YES stands in ALERT (R57). -/
def State.hornAlert (s : State) : Bool :=
  (ascending 96).any fun w => s.tables.window[w].horn && s.windows[w].state = .alert

/-- The last row of R57: no window with horn YES stands in ALERT any longer. -/
def State.hornCheck (s : State) : State :=
  if s.hornAlert then s else { s with horn := .off }

/-- A new activation of a feeder (R44, R57). -/
def State.activate (s : State) (w : Fin 96) (f : Feeder) : State :=
  let s := s.modWindow w fun v => { v with state := .alert, feeders := joinFeeder f v.feeders }
  let s := if s.tables.window[w].horn then { s with horn := .sounding } else s
  s.emit (.window w .alert)

/-- Where a window goes once acknowledged and clear (R43). -/
def clearedState (r : WindowRecord) : WindowState :=
  match r.sequence with
  | .auto => .quiet
  | .manual => .clearWait

/-- A deactivation of a feeder (R45). -/
def State.deactivate (s : State) (w : Fin 96) (f : Feeder) : State :=
  let s := s.modWindow w fun v => { v with feeders := leaveFeeder f v.feeders }
  if s.windows[w].feeders = [] && s.windows[w].state = .held then
    let st := clearedState s.tables.window[w]
    (s.modWindow w fun v => { v with state := st }).emit (.window w st)
  else s

/-- An ACK aimed at one window, and the horn's test when it leaves ALERT (R46, R57). -/
def State.ackWindow (s : State) (w : Fin 96) : State :=
  if s.windows[w].state = .alert then
    let st := if s.windows[w].feeders = [] then clearedState s.tables.window[w] else .held
    ((s.modWindow w fun v => { v with state := st }).emit (.window w st)).hornCheck
  else s

/-- A RESET aimed at one window (R47). -/
def State.resetWindow (s : State) (w : Fin 96) : State :=
  if s.windows[w].state = .clearWait then
    (s.modWindow w fun v => { v with state := .quiet }).emit (.window w .quiet)
  else s

/-- Deliver a new activation to the window a record names, or to none (R20, R41). -/
def State.activateAt (s : State) (w : Option (Fin 96)) (f : Feeder) : State :=
  match w with
  | none => s
  | some w => s.activate w f

def State.deactivateAt (s : State) (w : Option (Fin 96)) (f : Feeder) : State :=
  match w with
  | none => s
  | some w => s.deactivate w f

/-! ## Outputs -/

/-- The horn output (R58, R186, R187). -/
def State.hornOutput (s : State) : Bool :=
  s.phase = .running && s.horn = .sounding && s.mode.effective ≠ some .isolated

/-- The trip output of a channel (R87, R186, R187). -/
def State.tripOutput (s : State) (c : Fin 8) : Bool :=
  s.phase = .running && s.channels[c].state = .firing

/-- A window's displayed pattern (R53, R54). -/
def State.pattern (s : State) (w : Fin 96) : Pattern :=
  if s.lampTest.isRunning then .steady
  else match s.windows[w].state with
    | .quiet => .dark
    | .alert => if s.windows[w].markers = 0 then .fastFlash else .firstOut
    | .held => .steady
    | .clearWait => .slowFlash

/-- A window's displayed colour (R53, R54). -/
def State.colourOf (s : State) (w : Fin 96) : Fin 8 :=
  if s.lampTest.isRunning then s.tables.panel.testColour
  else if s.windows[w].markers = 0 then s.tables.window[w].normalColour
  else s.tables.window[w].firstOutColour

/-- Whether a pattern is in a lit part at flash clock `f` (R52). -/
def Pattern.litAt (p : Pattern) (f : Nat) : Bool :=
  match p with
  | .dark => false
  | .steady => true
  | .fastFlash => decide (f % 320 < 160)
  | .slowFlash => decide (f % 1280 < 640)
  | .firstOut => decide (f % 720 < 80) || (decide (160 ≤ f % 720) && decide (f % 720 ≤ 239))

/-- The drive level of one element while lit: brightness, global dim and derate, each step rounded down (R123). -/
def driveLevel (level brightness dim : Byte) (derate : Bool) : Nat :=
  let dimmed := level.toNat * brightness.toNat / 255 * dim.toNat / 255
  if derate then dimmed / 2 else dimmed

/-- A lamp channel is kept dark for a short (R128). -/
def State.keptDark (s : State) (w : Fin 96) : Bool := s.lamps[w].fault = some .short

/-- The levels red, green and blue of a window's lamp while its pattern is in a lit part (R123, R128). -/
def State.litLevels (s : State) (w : Fin 96) : Nat × Nat × Nat :=
  if s.keptDark w then (0, 0, 0)
  else
    let c := s.tables.palette[s.colourOf w]
    let level (b : Byte) := driveLevel b s.tables.window[w].brightness s.tables.panel.globalDim s.health.hot
    (level c.red, level c.green, level c.blue)

/-- What drives a window's lamp now (R123, R186, R187). -/
def State.lampDrive (s : State) (w : Fin 96) : Nat × Nat × Nat :=
  if s.phase = .running && (s.pattern w).litAt s.flash then s.litLevels w else (0, 0, 0)

/-- A window's lamp is lit: at least one element is driven above 0 (R123). -/
def State.lampLit (s : State) (w : Fin 96) : Bool := s.lampDrive w ≠ (0, 0, 0)

end Sys2Proof.Machine
end

