-- ==== Sys2Proof/Machine/FirstOut.lean ====
section
/-! DEFINITION. The First-Out Unit: list order, arrivals, the freeze and the group reset (chapter 4). -/

namespace Sys2Proof.Machine

def State.modGroup (s : State) (g : Fin 8) (f : FoGroup → FoGroup) : State :=
  { s with groups := upd s.groups g f }

/-- The offset of a stamp from the list origin (R66). -/
def offsetFrom (origin stamp : Stamp) : Nat := (stamp - origin + BitVec.ofNat 32 (2 ^ 31)).toNat

/-- List order: the smaller offset, and of equal offsets the lower point number, sorts before (R66). -/
def sortsBefore (origin : Stamp) (x y : Entry) : Bool :=
  offsetFrom origin x.stamp < offsetFrom origin y.stamp ||
    (offsetFrom origin x.stamp = offsetFrom origin y.stamp && x.point.val < y.point.val)

/-- Insert before the first entry that `x` sorts before, or at the end (R68). -/
def insertInOrder (origin : Stamp) (x : Entry) : List Entry → List Entry
  | [] => [x]
  | y :: rest => if sortsBefore origin x y then x :: y :: rest else y :: insertInOrder origin x rest

/-- An arrival in SETTLING: inserted, or compared with the last entry of a full list (R68, R69). -/
def placeSettling (origin : Stamp) (x : Entry) (g : FoGroup) : FoGroup :=
  if g.entries.length < Config.arrivalPlaces then { g with entries := insertInOrder origin x g.entries }
  else
    let overflow := countUp Config.byteCounterMax g.overflow
    match g.entries.getLast? with
    | some last =>
      if sortsBefore origin x last then
        { g with entries := insertInOrder origin x g.entries.dropLast, overflow }
      else { g with overflow }
    | none => g

/-- An arrival in FROZEN (R71, R72). -/
def placeFrozen (origin : Stamp) (x : Entry) (g : FoGroup) : FoGroup :=
  let dropped := { g with overflow := countUp Config.byteCounterMax g.overflow }
  if Config.arrivalPlaces ≤ g.entries.length then dropped
  else match g.entries with
    | [] => g
    | first :: rest =>
      if sortsBefore origin x first then
        match rest with
        | second :: _ => if second.late then dropped else { g with entries := first :: { x with late := true } :: rest }
        | [] => { g with entries := [first, { x with late := true }] }
      else match rest with
        | second :: others =>
          if second.late then { g with entries := first :: second :: insertInOrder origin x others }
          else { g with entries := first :: insertInOrder origin x rest }
        | [] => { g with entries := [first, x] }

/-- An arrival at a group (R65, R67 to R72). -/
def State.arrive (s : State) (g : Fin 8) (p : Fin 256) (stamp : Stamp) : State :=
  let grp := s.groups[g]
  let x : Entry := { point := p, stamp, late := false }
  if !s.tables.group[g].enable then s
  else if grp.entries.any (fun e => e.point = p) then s
  else match grp.state with
    | .armed =>
      (s.modGroup g fun v =>
        { v with state := .settling, entries := [x], origin := some stamp,
                 settle := .running s.tables.group[g].settleMs }).emit (.group g .settling)
    | .settling => s.modGroup g (placeSettling (grp.origin.getD stamp) x)
    | .frozen => s.modGroup g (placeFrozen (grp.origin.getD stamp) x)

/-- Deliver an arrival to the group a record names, or to none (R21). -/
def State.arriveAt (s : State) (g : Option (Fin 8)) (p : Fin 256) (stamp : Stamp) : State :=
  match g with
  | none => s
  | some g => s.arrive g p stamp

/-- The settle timer runs out: the group freezes and its first entry's window takes the marker (R70, R51). -/
def State.freezeGroup (s : State) (g : Fin 8) : State :=
  let marker := match s.groups[g].entries with
    | [] => none
    | first :: _ => s.tables.point[first.point].window
  let s := s.modGroup g fun v => { v with state := .frozen, settle := .stopped, marker }
  let s := match marker with
    | none => s
    | some w => s.modWindow w fun v => { v with markers := addToSet v.markers g.val }
  s.emit (.group g .frozen)

/-- A group reset, with the marker's removal and its record (R74, R51). -/
def State.resetGroup (s : State) (g : Fin 8) : State :=
  let s := match s.groups[g].marker with
    | none => s
    | some w => s.modWindow w fun v => { v with markers := dropFromSet v.markers g.val }
  (s.modGroup g fun _ => FoGroup.atReset).emit (.group g .armed)

end Sys2Proof.Machine
end

