-- ==== Sys2Proof/Machine/Flags.lean ====
section
/-! DEFINITION. The Health Monitor: flags, conditions and the health feeder (chapter 7). -/

namespace Sys2Proof.Machine

/-! Flag numbers of R133. -/
def flagPowerRestart : Fin 11 := 0
def flagPatternReset : Fin 11 := 1
def flagSupplyLow : Fin 11 := 2
def flagHot : Fin 11 := 3
def flagLampFault : Fin 11 := 4
def flagCoilFault : Fin 11 := 5
def flagScannerStale : Fin 11 := 6
def flagModeUnknown : Fin 11 := 7
def flagLinkDown : Fin 11 := 8
def flagConfigLost : Fin 11 := 9
def flagStoreFail : Fin 11 := 10

/-- An unmasked entry of the lamp fault list holds a fault (R129). -/
def State.lampFaultPresent (s : State) : Bool :=
  (ascending 96).any fun w => !s.tables.lampMask[w] && s.lamps[w].fault.isSome

/-- Some coil state is OPEN or SHORT (R131). -/
def State.coilFaultPresent (s : State) : Bool := (ascending 8).any fun c => s.coils[c].state ≠ .ok

/-- Some non-empty Source Map entry's freshness timer stands expired (R13). -/
def State.scannerStalePresent (s : State) : Bool :=
  (ascending 24).any fun e => s.tables.source[e].isSome && s.entries[e].freshness = .expired

/-- The image would be taken as valid (R182). -/
def Nonvolatile.imageValid (nv : Nonvolatile) : Bool := nv.markValid && nv.checkAgrees

/-- The condition of a health flag, by number (R133). -/
def State.conditionPresent (s : State) (n : Fin 11) : Bool :=
  if n = flagSupplyLow then s.health.supplyLow
  else if n = flagHot then s.health.hot
  else if n = flagLampFault then s.lampFaultPresent
  else if n = flagCoilFault then s.coilFaultPresent
  else if n = flagScannerStale then s.scannerStalePresent
  else if n = flagModeUnknown then s.mode.unitTimer = .expired
  else if n = flagLinkDown then s.field.status = .down || s.station.status = .down
  else if n = flagConfigLost then !s.nv.imageValid
  else false

def State.flagSet (s : State) (n : Fin 11) : Bool := inSet s.health.flags n.val

/-- At least one flag that is SET is not in the health masks (R137). -/
def State.unmaskedFlag (s : State) : Bool := s.health.flags &&& ~~~s.tables.panel.healthMasks ≠ 0

/-- Evaluate the health feeder and publish its change to the health window (R137). -/
def State.evaluateFeeder (s : State) : State :=
  let now := s.unmaskedFlag
  let was := s.health.feeder
  let s := { s with health := { s.health with feeder := now } }
  if now && !was then s.activate s.tables.panel.healthWindow .health
  else if was && !now then s.deactivate s.tables.panel.healthWindow .health
  else s

/-- A clear flag becomes SET with its record; a set flag does nothing (R135, without the feeder). -/
def State.raiseFlag (s : State) (n : Fin 11) : State :=
  if s.flagSet n then s
  else { s with health := { s.health with flags := addToSet s.health.flags n.val } }.emit (.health n true)

/-- A flag's cause occurs (R135). -/
def State.setFlag (s : State) (n : Fin 11) : State :=
  if s.flagSet n then s else (s.raiseFlag n).evaluateFeeder

/-- One flag at CLEAR-HEALTH: cleared with its record when SET with its condition absent (R136, step 3). -/
def State.clearFlag (s : State) (n : Fin 11) : State :=
  if s.flagSet n && !s.conditionPresent n then
    { s with health := { s.health with flags := dropFromSet s.health.flags n.val } }.emit (.health n false)
  else s

/-- CLEAR-HEALTH as one step (R136). It clears the lamp fault list whatever flags are SET, where R136 also says that one which
finds every flag CLEAR changes nothing (DESIGN CHOICE, log 31). -/
def State.clearAllHealth (s : State) : State :=
  let s := { s with lamps := Vector.replicate 96 { fault := none, run := none } }
  (forEach (ascending 11) (fun n s => s.clearFlag n) s).evaluateFeeder

/-- The LAMP-FAULT condition is evaluated afresh (R129). -/
def State.evaluateLampFault (s : State) : State :=
  if s.lampFaultPresent then s.setFlag flagLampFault else s

/-- Take a temperature reading: the HOT condition with hysteresis, derate and the flag (R124). -/
def State.takeTemperature (s : State) (celsius : Int) : State :=
  let was := s.health.hot
  let hot := if was then decide (Config.hotEndsAt < celsius) else decide (Config.hotAbove < celsius)
  let s := { s with health := { s.health with celsius, hot } }
  if hot && !was then s.setFlag flagHot else s

end Sys2Proof.Machine
end

