-- ==== Sys2Proof/Machine/Links.lean ====
section
/-! DEFINITION. The link side: transit FIFOs, response slots, the arbiters, and the wrapper that ends every step (chapter 8). -/

namespace Sys2Proof.Machine

/-! ## The arbiter (R151, R152) -/

def Slot.isFilled : Slot → Bool
  | .filled _ _ => true
  | .reserved _ _ => false

/-- The oldest response slot of a port is FILLED (R155). -/
def Port.responseWaits (p : Port) : Bool :=
  match p.slots with
  | [] => false
  | slot :: _ => slot.isFilled

/-- The records that the Station transmitter is sending (R159). -/
def State.recordsInFrame (s : State) : Nat :=
  match s.station.tx with
  | .report count _ => count
  | _ => 0

/-- The own frame that waits at a port and would be sent next, if any (R151, R152, R159). -/
def State.ownFrame (s : State) (p : PortId) : Option Transmitter :=
  if (s.port p).responseWaits then some .response
  else if p = .station && s.recordsInFrame < s.reports.length then
    some (.report (min Config.reportsPerFrame s.reports.length) s.lost)
  else none

/-- Own frames begin to wait after a time in which none waited: the forwarded count is set to 0 (R151). -/
def beginWait (was now : Bool) (x : Transmitter × Nat) : Transmitter × Nat :=
  if now && !was then (x.1, 0) else x

/-- The arbiter's choice when its transmitter is free, with the transmitter and forwarded count afterwards (R152). -/
def chooseNext (up : Bool) (own : Option Transmitter) (waiting : Nat) (x : Transmitter × Nat) : Transmitter × Nat :=
  if up && x.1 = .free then
    match own with
    | none => if waiting = 0 then x else (.transit, x.2)
    | some t =>
      if waiting = 0 then (t, x.2)
      else if x.2 < Config.forwardLimit then (.transit, x.2 + 1)
      else (t, x.2)
  else x

def Port.withArbiter (p : Port) (x : Transmitter × Nat) : Port := { p with tx := x.1, forwarded := x.2 }

/-- The arbiter of a port at the end of a step that led from `before` to `after` (log 7). -/
def settlePort (before : State) (p : PortId) (after : State) : State :=
  let q := after.port p
  let own := after.ownFrame p
  after.modPort p fun q' => q'.withArbiter
    (chooseNext (q.status = .up) own q.fifo.length
      (beginWait (before.ownFrame p).isSome own.isSome (q.tx, q.forwarded)))

def settle (before after : State) : State := settlePort before .station (settlePort before .field after)

/-- A step of the part: while it runs, `f` and then the arbiters; otherwise the event does not come about (log 6). -/
def perform (s : State) (f : State → State) : Host.Outcome State Fault Refusal :=
  .next (if s.phase = .running then settle s (f s) else s)

/-! ## Good frames (R147 to R149) -/

/-- The part receives frames on a port: it runs and the port is UP (R143, R187). -/
def State.receives (s : State) (p : PortId) : Bool := s.phase = .running && (s.port p).status = .up

/-- Offer a frame that arrived on `p` to the transit FIFO toward the other port (R149). -/
def State.offer (s : State) (p : PortId) (f : Frame) : State :=
  let q := s.port (otherPort p)
  if q.status = .down then s
  else if q.fifo.length < Config.transitPlaces then
    s.modPort (otherPort p) fun q => { q with fifo := q.fifo ++ [f] }
  else s.modPort p fun q => { q with overflow := countUp Config.portCounterMax q.overflow }

/-- The arbiter of the port that a frame is forwarded to, when the frame joins before the own frames that the acting
blocks make begin to wait, and the other way round. -/
def frameFirst (up : Bool) (ownBefore ownAfter : Option Transmitter) (fifoAfter : Nat) (x : Transmitter × Nat) :
    Transmitter × Nat :=
  chooseNext up ownAfter fifoAfter
    (beginWait ownBefore.isSome ownAfter.isSome (chooseNext up ownBefore fifoAfter x))

def blocksFirst (up : Bool) (ownBefore ownAfter : Option Transmitter) (fifoBefore fifoAfter : Nat)
    (x : Transmitter × Nat) : Transmitter × Nat :=
  chooseNext up ownAfter fifoAfter
    (chooseNext up ownAfter fifoBefore (beginWait ownBefore.isSome ownAfter.isSome x))

/-- The first choice of the arbiter of a port that goes UP at this instant, over all that has joined by now: no byte of a
frame chosen before has left (R143, R161; log 34). -/
def State.firstChoice (s : State) (p : PortId) : Transmitter × Nat :=
  let s := s.modPort p fun q => q.withArbiter (.free, 0)
  chooseNext ((s.port p).status = .up) (s.ownFrame p) (s.port p).fifo.length (.free, 0)

/-- A good frame that is not consumed: the blocks act by `act`, and the frame is offered to transit. The two hold
different state; only the arbiter of the port toward which it goes sees their order, and where that order matters
the free value decides it (R147; log 8). A port that goes UP at the same instant takes its first choice with the frame in
its FIFO, as it would had the frame come first (R161; log 34). -/
def passFrame (s : State) (p : PortId) (f : Frame) (act : State → State) : State :=
  let acted := act s
  let offered := acted.offer p f
  let q := offered.port (otherPort p)
  let x := (q.tx, q.forwarded)
  let up := decide (q.status = .up)
  let ownBefore := s.ownFrame (otherPort p)
  let ownAfter := acted.ownFrame (otherPort p)
  let a := frameFirst up ownBefore ownAfter q.fifo.length x
  let b := blocksFirst up ownBefore ownAfter (acted.port (otherPort p)).fifo.length q.fifo.length x
  let y := if q.justUp then offered.firstChoice (otherPort p)
    else if a = b then a else if Config.transitFirst s.freeDraws then a else b
  settlePort s p
    { (offered.modPort (otherPort p) fun q => q.withArbiter y) with
      freeDraws := if q.justUp || a = b then offered.freeDraws else offered.freeDraws + 1 }

/-- A step that takes a good, non-consumed frame; nothing arrives while the port does not receive (R143). -/
def performFrame (s : State) (p : PortId) (f : Frame) (act : State → State) : Host.Outcome State Fault Refusal :=
  .next (if s.receives p then passFrame s p f act else s)

/-! ## Response slots (R154, R155) -/

/-- The MGMT-RSP frame of a request (R155, 11.2). -/
def State.response (s : State) (id : BitVec 16) (src : Byte) (result : ResultCode) (data : List Byte) : Frame :=
  { kind := 7, dest := src, src := s.panelAddress, body := bytes16 id.toNat ++ [result.code] ++ data }

/-- Fill a RESERVED slot with the response to its request. -/
def State.fillSlot (s : State) (result : ResultCode) : Slot → Slot
  | .reserved id src => .filled (s.response id src result []) false
  | slot => slot

/-- The answer to the STORE or FREEZE-TRIP in flight: its slot is filled, or its frame is discarded when the slot was
emptied by the port going DOWN. At most one slot is RESERVED, since only these two requests are answered later. -/
def State.answerFlight (s : State) (result : ResultCode) : State :=
  { s with
    field := { s.field with slots := s.field.slots.map (s.fillSlot result) }
    station := { s.station with slots := s.station.slots.map (s.fillSlot result) } }

def Slot.isKey : Slot → Bool
  | .filled _ key => key
  | .reserved _ _ => false

/-- Responses leave the part: a pending pattern reset learns whether the fourth key's was among them (R155, R178). -/
def State.responsesLeave (s : State) (slots : List Slot) : State :=
  if slots.any Slot.isKey then
    { s with management := { s.management with pendingReset := s.management.pendingReset.map fun _ => false } }
  else s

/-! ## Port events (R142, R143) -/

/-- A port's move into DOWN: everything waiting for its transmitter is discarded (R143, R151, R155, R160). -/
def State.portGoesDown (s : State) (p : PortId) : State :=
  let slots := (s.port p).slots
  let s := s.modPort p fun q =>
    { q with status := .down, fifo := [], slots := [], forwarded := 0, tx := .free, justUp := false }
  (s.responsesLeave slots).setFlag flagLinkDown

end Sys2Proof.Machine
end

