-- ==== Sys2Proof/Machine/Trips.lean ====
section
/-! DEFINITION. The Trip Unit: votes, permits, evaluation, firing and the executed reset (chapter 5). -/

namespace Sys2Proof.Machine

def State.modChannel (s : State) (c : Fin 8) (f : Channel → Channel) : State :=
  { s with channels := upd s.channels c f }

/-- The lockout record as it reads from the moment its write begins (R92). -/
def State.writeLockout (s : State) (c : Fin 8) (set : Bool) : State :=
  { s with nv := { s.nv with lockout := upd s.nv.lockout c fun _ => set } }

/-- The trip permit mode (R34). -/
def ModeTracker.permitMode (t : ModeTracker) : Option Mode :=
  match t.effective with
  | some m => some m
  | none => t.lastKnown

/-! ## Votes (R83, R84) -/

def alarmed (c : Condition) : Bool := c = .abnormal || c = .offDelay

/-- Whether a voter counts under a stale rule (R84). -/
def Voter.counts (rule : StaleRule) (v : Voter) : Bool :=
  match v.quality, rule with
  | .good, _ => alarmed v.condition
  | .unseen, .countTrip => true
  | .unseen, _ => false
  | _, .holdLast => alarmed v.condition
  | _, .countTrip => true
  | _, .countClear => false

def voteCount (rule : StaleRule) (voters : List Voter) : Nat := (voters.filter (Voter.counts rule)).length

/-- Put a voter in the table, in point-number order, replacing the point's entry (R83). -/
def putVoter (v : Voter) : List Voter → List Voter
  | [] => [v]
  | u :: rest =>
    if v.point = u.point then v :: rest
    else if v.point.val < u.point.val then v :: u :: rest
    else u :: putVoter v rest

def removeVoter (p : Fin 256) (l : List Voter) : List Voter := l.filter (fun v => v.point ≠ p)

/-! ## Evaluation (R86, R88, R89) -/

/-- The new state of a channel in DISARMED, ARM-WAIT or READY (R88). -/
def nextChannelState (st : ChannelState) (permit : Bool) (count required : Nat) : ChannelState :=
  if !permit then .disarmed
  else if count < required then .ready
  else match st with
    | .ready => .firing
    | _ => .armWait

/-- Entry to FIRING as one step (R89). -/
def State.fire (s : State) (c : Fin 8) : State :=
  let s := s.modChannel c fun v => { v with state := .firing, pulse := .running s.tables.trip[c].pulseMs }
  let s := s.writeLockout c true
  let s := { s with coils := upd s.coils c fun k => { k with run := none } }
  let s := s.emit (.trip c .firing)
  s.activateAt s.tables.trip[c].window (.channel c)

/-- Evaluate a channel; FIRING and LOCKOUT keep their state (R88, R90, R93). -/
def State.evaluate (s : State) (c : Fin 8) : State :=
  let ch := s.channels[c]
  match ch.state with
  | .firing | .lockout => s
  | st =>
    let st' := nextChannelState st ch.permit ch.count s.tables.trip[c].required
    if st' = st then s
    else if st' = .firing then s.fire c
    else (s.modChannel c fun v => { v with state := st' }).emit (.trip c st')

/-- Take a voter table as the channel's, its count afresh, and a count change if there is one (R85). -/
def State.setVoters (s : State) (c : Fin 8) (voters : List Voter) : State :=
  let count := voteCount s.tables.trip[c].stale voters
  let changed := count ≠ s.channels[c].count
  let s := s.modChannel c fun v => { v with voters, count }
  if changed then s.evaluate c else s

/-- The permit of a channel record against a trip permit mode (R86). -/
def permitOf (r : TripRecord) (mode : Option Mode) : Bool :=
  match mode with
  | none => false
  | some m => r.enable && r.permits.has m

/-- Take a channel's permit afresh, and a permit change if there is one (R86). -/
def State.takePermit (s : State) (c : Fin 8) : State :=
  let permit := permitOf s.tables.trip[c] s.mode.permitMode
  if permit = s.channels[c].permit then s
  else (s.modChannel c fun v => { v with permit }).evaluate c

/-- A new trip permit mode is published: all eight channels, in ascending order (R34, R86; order: log 13). -/
def State.publishPermits (s : State) : State := forEach (ascending 8) (fun c s => s.takePermit c) s

/-- A channel is brought up to its new record in one step (R82). -/
def State.bringUp (s : State) (c : Fin 8) : State :=
  let r := s.tables.trip[c]
  (s.modChannel c fun v =>
    { v with count := voteCount r.stale v.voters, permit := permitOf r s.mode.permitMode }).evaluate c

/-- Pulse expiry (R91, R132). -/
def State.endPulse (s : State) (c : Fin 8) : State :=
  let s := s.modChannel c fun v => { v with state := .lockout, pulse := .stopped }
  let s := { s with coils := upd s.coils c fun k => { k with run := none } }
  s.emit (.trip c .lockout)

/-- An accepted reset as one step (R95). -/
def State.acceptReset (s : State) (c : Fin 8) : State :=
  let st := nextChannelState .disarmed s.channels[c].permit s.channels[c].count s.tables.trip[c].required
  let s := s.writeLockout c false
  let s := (s.modChannel c fun v => { v with state := st }).emit (.trip c st)
  s.deactivateAt s.tables.trip[c].window (.channel c)

/-- The Trip Unit's answer to an executed reset (R94): nothing when it is accepted. -/
def State.judgeReset (s : State) (c : Fin 8) : Option RefusalReason :=
  match s.channels[c].state with
  | .lockout => if s.channels[c].count < s.tables.trip[c].required then none else some .conditionPresent
  | .firing => some .firing
  | _ => some .notLocked

/-- The Trip Unit's answer whether a channel is disabled (R96). -/
def State.channelDisabled (s : State) (c : Fin 8) : Bool :=
  !s.tables.trip[c].enable && s.channels[c].state ≠ .lockout

/-- Some channel is in FIRING (R101). -/
def State.anyFiring (s : State) : Bool := (ascending 8).any fun c => s.channels[c].state = .firing

/-- Some channel is in FIRING or LOCKOUT (R176). -/
def State.anyTripped (s : State) : Bool :=
  (ascending 8).any fun c => s.channels[c].state = .firing || s.channels[c].state = .lockout

end Sys2Proof.Machine
end

