-- ==== Sys2Proof/Machine/Console.lean ====
section
/-! DEFINITION. The Console Command Unit: matching, targets, the window, horn and lamp-test commands, and
select-before-operate (chapter 6). -/

namespace Sys2Proof.Machine

/-! ## Taking and matching (R103, R105) -/

/-- The console id and target kind are in range (R103). -/
def consoleTaken (c : ConsoleFrame) : Bool := c.console.toNat ≤ 15 && c.targetKind.toNat ≤ 4

/-- A destination is matched (R105). -/
def State.matchesPanel (s : State) (d : Byte) : Bool :=
  let p := s.tables.panel
  if d = 255 then true
  else if 64 ≤ d.toNat then false
  else match p.matchMode with
    | .mask => (d ^^^ s.panelAddress) &&& p.matchMask = 0
    | .pair => d = s.panelAddress || d = p.aliasAddress
    | .range => p.rangeLow.toNat ≤ d.toNat && d.toNat ≤ p.rangeHigh.toNat

/-- The CONSOLE-CMD frame with a command code (11.2). -/
def consoleFrame (c : ConsoleFrame) (command : Byte) : Frame :=
  { kind := 5, dest := c.dest, src := c.src, body := [c.console, command, c.targetKind, c.targetIndex] }

/-- A step that takes a CONSOLE-CMD frame: forwarded always, acted on when taken and matched (R103, R105). -/
def performConsole (s : State) (c : ConsoleFrame) (command : Byte) (act : State → State) :
    Host.Outcome State Fault Refusal :=
  performFrame s c.port (consoleFrame c command) fun s =>
    if consoleTaken c && s.matchesPanel c.dest then act s else s

/-- A refusal's record (R118). -/
def State.refuseCommand (s : State) (c : ConsoleFrame) (command : Byte) (reason : RefusalReason) : State :=
  s.emit (.commandRefused c.console reason command c.targetKind c.targetIndex)

/-! ## Windows, horn and lamp test (R106 to R109) -/

/-- The windows a target names: all of them, one, or an unacceptable target (R106). -/
def targetWindows (c : ConsoleFrame) : Option (List (Fin 96)) :=
  if c.targetKind = 1 then some (ascending 96)
  else if c.targetKind = 2 then (index? 96 c.targetIndex.toNat).map fun w => [w]
  else none

/-- Apply an operation to each window of the target in ascending order, or refuse BAD-TARGET (R48, R106, R107). -/
def State.onWindows (s : State) (c : ConsoleFrame) (command : Byte) (f : Fin 96 → State → State) : State :=
  match targetWindows c with
  | none => s.refuseCommand c command .badTarget
  | some ws => forEach ws f s

/-- SILENCE (R57, R108). -/
def State.silenceHorn (s : State) : State := if s.horn = .sounding then { s with horn := .silenced } else s

/-- A lamp test starts, or restarts for its full time (R54). -/
def State.startLampTest (s : State) : State := { s with lampTest := .running Config.lampTestMs }

/-- A lamp test ends; without one there is no effect (R55). -/
def State.stopLampTest (s : State) : State := { s with lampTest := .stopped }

/-! ## The Selection slot (R110 to R116) -/

/-- A target is disabled at the moment a SELECT is taken (R96, R106). -/
def State.targetDisabled (s : State) : Target → Bool
  | .trip c => s.channelDisabled c
  | .group g => !s.tables.group[g].enable

/-- The slot becomes HELD with a fresh age timer, with its SELECTED record (R111). -/
def State.holdSelection (s : State) (console : Byte) (t : Target) : State :=
  { s with selection := some { console, target := t, age := .running (s.tables.panel.selectionAgeS * 1000) } }.emit
    (.selection console .selected t)

/-- An accepted SELECT (R111, R112). -/
def State.acceptSelect (s : State) (console : Byte) (t : Target) : State :=
  match s.selection with
  | none => s.holdSelection console t
  | some held =>
    if held.console = console ∧ held.target = t then s.holdSelection console t
    else (s.emit (.selection held.console .replaced held.target)).holdSelection console t

/-- A matched SELECT (R106, R111, R112). -/
def State.takeSelect (s : State) (c : ConsoleFrame) : State :=
  match Target.of c.targetKind c.targetIndex with
  | none => s.refuseCommand c 6 .badTarget
  | some t => if s.targetDisabled t then s.refuseCommand c 6 .badTarget else s.acceptSelect c.console t

/-- The executed selection is handed to its owner (R94, R95, R113). -/
def State.performTarget (s : State) (c : ConsoleFrame) : Target → State
  | .group g => s.resetGroup g
  | .trip t =>
    match s.judgeReset t with
    | none => s.acceptReset t
    | some why => s.refuseCommand c 7 why

/-- The slot is emptied and its timer stopped. -/
def State.emptySlot (s : State) : State := { s with selection := none }

/-- A matched EXECUTE (R113, R114). -/
def State.takeExecute (s : State) (c : ConsoleFrame) : State :=
  match s.selection with
  | none => if c.dest = 255 then s else s.refuseCommand c 7 .noSelection
  | some held =>
    if held.console = c.console ∧ Target.of c.targetKind c.targetIndex = some held.target then
      s.emptySlot.performTarget c held.target
    else s.refuseCommand c 7 .mismatch

/-- A matched CANCEL (R115). -/
def State.takeCancel (s : State) (c : ConsoleFrame) : State :=
  match s.selection with
  | none => s
  | some held =>
    if held.console = c.console then s.emptySlot.emit (.selection held.console .cancelled held.target) else s

/-- The age timer runs out (R116); one that a SELECT has just restarted has not (R117). -/
def State.ageExpires (s : State) : State :=
  match s.selection with
  | none => s
  | some held => if held.age.isDue then s.emptySlot.emit (.selection held.console .expired held.target) else s

/-! ## Meanings -/

/-- ACK (R46, R48, R107). -/
def execAck (c : ConsoleFrame) (s : State) : Host.Outcome State Fault Refusal :=
  performConsole s c 1 fun s => s.onWindows c 1 fun w s => s.ackWindow w

/-- RESET (R47, R48, R107). -/
def execReset (c : ConsoleFrame) (s : State) : Host.Outcome State Fault Refusal :=
  performConsole s c 2 fun s => s.onWindows c 2 fun w s => s.resetWindow w

/-- SILENCE (R57, R108). -/
def execSilence (c : ConsoleFrame) (s : State) : Host.Outcome State Fault Refusal :=
  performConsole s c 3 State.silenceHorn

/-- LAMP_TEST_START (R54, R109). -/
def execLampTestStart (c : ConsoleFrame) (s : State) : Host.Outcome State Fault Refusal :=
  performConsole s c 4 State.startLampTest

/-- LAMP_TEST_STOP (R55, R109). -/
def execLampTestStop (c : ConsoleFrame) (s : State) : Host.Outcome State Fault Refusal :=
  performConsole s c 5 State.stopLampTest

/-- SELECT (R106, R111, R112). -/
def execSelect (c : ConsoleFrame) (s : State) : Host.Outcome State Fault Refusal :=
  performConsole s c 6 fun s => s.takeSelect c

/-- EXECUTE (R113, R114). -/
def execExecute (c : ConsoleFrame) (s : State) : Host.Outcome State Fault Refusal :=
  performConsole s c 7 fun s => s.takeExecute c

/-- CANCEL (R115). -/
def execCancel (c : ConsoleFrame) (s : State) : Host.Outcome State Fault Refusal :=
  performConsole s c 8 fun s => s.takeCancel c

/-- AGE_TIMER_EXPIRY (R116). -/
def execAgeTimerExpiry (s : State) : Host.Outcome State Fault Refusal :=
  perform s State.ageExpires

/-- LAMP_TEST_EXPIRY (R55). -/
def execLampTestExpiry (s : State) : Host.Outcome State Fault Refusal :=
  perform s fun s => if s.lampTest.isDue then s.stopLampTest else s

end Sys2Proof.Machine
end

