-- ==== Sys2Proof/Machine/Points.lean ====
section
/-! DEFINITION. The Point Unit and the Source Map: mapping, the condition machine and what a point publishes (chapter 1),
with the Mode Tracker's answer on inhibition (R32). -/

namespace Sys2Proof.Machine

/-! ## The Source Map (R1) -/

/-- The point that channel `c` lands on under an entry that covers it. -/
def SourceEntry.pointOf (e : SourceEntry) (c : Nat) : Option (Fin 256) :=
  if e.firstChannel ≤ c && c < e.firstChannel + e.count then index? 256 (e.firstPoint + (c - e.firstChannel)) else none

/-- The entry and point that channel `c` of scanner `scanner` maps to (R1). -/
def Tables.mapChannel (t : Tables) (scanner c : Nat) : Option (Fin 24 × Fin 256) :=
  (ascending 24).findSome? fun i =>
    match t.source[i] with
    | none => none
    | some e => if e.scanner.val = scanner then (e.pointOf c).map (fun p => (i, p)) else none

/-- Some non-empty entry names the scanner (R5). -/
def Tables.namesScanner (t : Tables) (scanner : Nat) : Bool :=
  (ascending 24).any fun i =>
    match t.source[i] with
    | none => false
    | some e => e.scanner.val = scanner

/-- The points of an entry's range, ascending. -/
def SourceEntry.range (e : SourceEntry) : List (Fin 256) :=
  (List.range e.count).filterMap fun k => index? 256 (e.firstPoint + k)

def rangeOf (e : Option SourceEntry) : List (Fin 256) :=
  match e with
  | none => []
  | some e => e.range

/-! ## Inhibition and feeder activity (R20, R32) -/

/-- Whether a tracker inhibits a point with the given inhibit set (R32). -/
def ModeTracker.inhibits (t : ModeTracker) (set : ModeSet) : Bool :=
  match t.effective with
  | none => false
  | some m =>
    set.has m ||
      (t.hold.isRunning && (match t.held with | none => false | some h => set.has h))

def State.inhibited (s : State) (p : Fin 256) : Bool := s.mode.inhibits s.tables.point[p].inhibit

/-- A point's feeder is active (R20). -/
def State.feederActive (s : State) (p : Fin 256) : Bool :=
  s.tables.point[p].service = .inn && !s.inhibited p && alarmed s.points[p].condition

/-! ## The condition machine (R15, R16) -/

/-- The alarm value of a polarity. -/
def Polarity.alarmValue : Polarity → Raw
  | .alarmOnSet => .set
  | .alarmOnClear => .clear

def alarmRaw (r : PointRecord) (raw : Option Raw) : Bool := raw = some r.polarity.alarmValue

/-- A raw change reaches the condition machine (R16); it acts only on an IN point that is not UNSEEN (R15). -/
def takeRawChange (r : PointRecord) (v : Point) : Point :=
  if r.service = .inn && v.quality ≠ .unseen then
    let alarm := alarmRaw r v.raw
    match v.condition with
    | .normal =>
      if !alarm then v
      else if r.onDelay = 0 then { v with condition := .abnormal, alarmStamp := v.changeStamp }
      else { v with condition := .onDelay, delay := .running r.onDelay }
    | .onDelay => if alarm then v else { v with condition := .normal, delay := .stopped }
    | .abnormal =>
      if alarm then v
      else if r.offDelay = 0 then { v with condition := .normal, alarmStamp := none }
      else { v with condition := .offDelay, delay := .running r.offDelay }
    | .offDelay => if alarm then { v with condition := .abnormal, delay := .stopped } else v
  else v

/-- The delay timer runs out (R16). -/
def takeDelayExpiry (v : Point) : Point :=
  match v.condition with
  | .onDelay => { v with condition := .abnormal, delay := .stopped, alarmStamp := v.changeStamp }
  | .offDelay => { v with condition := .normal, delay := .stopped, alarmStamp := none }
  | _ => v

/-! ## What a point publishes (R20 to R22) -/

def State.modPoint (s : State) (p : Fin 256) (f : Point → Point) : State :=
  { s with points := upd s.points p f }

/-- Publish a point's vote state to each channel on its list, in list order (R22, R83). -/
def State.publishVotes (s : State) (p : Fin 256) : State :=
  forEach s.tables.point[p].votes (fun c s =>
    if s.tables.point[p].service = .inn then
      s.setVoters c (putVoter { point := p, condition := s.points[p].condition, quality := s.points[p].quality }
        s.channels[c].voters)
    else s.setVoters c (removeVoter p s.channels[c].voters)) s

/-- Publish the change of a point's feeder from `was`: the window, then the group (R20, R21; order: log 11). -/
def State.publishFeeder (s : State) (p : Fin 256) (was : Bool) (stamp : Stamp) : State :=
  let now := s.feederActive p
  let r := s.tables.point[p]
  if now && !was then (s.activateAt r.window (.point p)).arriveAt r.group p stamp
  else if was && !now then s.deactivateAt r.window (.point p)
  else s

/-- Change a point's dynamic state and publish the result: feeder activity, arrival and votes (R20 to R22).
A new activation made by a condition change carries the alarm stamp (R21). -/
def State.changePoint (s : State) (p : Fin 256) (f : Point → Point) : State :=
  let was := s.feederActive p
  let s := s.modPoint p f
  let stamp := s.points[p].alarmStamp.getD s.clock
  (s.publishFeeder p was stamp).publishVotes p

/-- A quality under a gap (R7). -/
def Quality.gapped : Quality → Quality
  | .good => .suspect
  | .stale => .suspect
  | q => q

/-! ## Service (R18, R19) -/

def State.setService (s : State) (p : Fin 256) (sv : Service) : State :=
  { s with tables := { s.tables with point := upd s.tables.point p fun r => { r with service := sv } } }

/-- SERVICE OUT (R18). -/
def State.serviceOut (s : State) (p : Fin 256) : State :=
  if s.tables.point[p].service = .out then s
  else
    let s := s.emit (.service p .out)
    let was := s.feederActive p
    let s := s.modPoint p fun v => { v with condition := .normal, delay := .stopped, alarmStamp := none }
    let s := s.setService p .out
    (s.publishFeeder p was s.clock).publishVotes p

/-- SERVICE IN (R19). -/
def State.serviceIn (s : State) (p : Fin 256) : State :=
  if s.tables.point[p].service = .inn then s
  else
    let s := (s.emit (.service p .inn)).setService p .inn
    let r := s.tables.point[p]
    let v := { s.points[p] with condition := .normal, delay := .stopped, alarmStamp := none }
    let v := if v.quality ≠ .unseen && alarmRaw r v.raw then takeRawChange r { v with changeStamp := some s.clock } else v
    let s := s.modPoint p fun _ => v
    (s.publishFeeder p false (v.alarmStamp.getD s.clock)).publishVotes p

end Sys2Proof.Machine
end

