-- ==== Sys2Proof/Machine/Modes.lean ====
section
/-! DEFINITION. The Mode Tracker: mode changes, the hold, inhibition events and the maintenance condition (chapter 2). -/

namespace Sys2Proof.Machine

/-- The maintenance condition (R36). -/
def State.maintenance (s : State) : Bool :=
  s.mode.effective = some .isolated || s.mode.effective = some .standstill

/-- The tracker after its effective mode becomes `m`: the last known mode (R34) and the hold (R29). -/
def ModeTracker.changeTo (t : ModeTracker) (m : Option Mode) (holdMs : Nat) : ModeTracker :=
  match t.effective, m with
  | some a, some b =>
    if a = b then t
    else if holdMs = 0 then { t with effective := some b, lastKnown := some b, held := none, hold := .stopped }
    else { t with effective := some b, lastKnown := some b, held := some a, hold := .running holdMs }
  | some _, none => { t with effective := none, held := none, hold := .stopped }
  | none, some b => { t with effective := some b, lastKnown := some b }
  | none, none => t

/-- One point's change of inhibition at an inhibition event, from what the tracker `old` answered (R33). -/
def State.publishInhibition (s : State) (old : ModeTracker) (p : Fin 256) : State :=
  let r := s.tables.point[p]
  let before := old.inhibits r.inhibit
  let after := s.mode.inhibits r.inhibit
  if before = after || r.service = .out || !alarmed s.points[p].condition then s
  else if after then s.deactivateAt r.window (.point p)
  else (s.activateAt r.window (.point p)).arriveAt r.group p s.clock

/-- Take a new state of the tracker with all that follows: the MODE record (R37), the trip permit mode (R34) and the
inhibition of every point in ascending order (R33). Order: log 12. -/
def State.takeMode (s : State) (t : ModeTracker) : State :=
  let old := s.mode
  let s := { s with mode := t }
  let s := if t.effective = old.effective then s else s.emit (.mode t.effective)
  let s := if t.permitMode = old.permitMode then s else s.publishPermits
  forEach (ascending 256) (fun p s => s.publishInhibition old p) s

/-- The effective mode becomes `m` (R27, R29, R31). -/
def State.changeMode (s : State) (m : Option Mode) : State :=
  s.takeMode (s.mode.changeTo m s.tables.panel.modeHoldMs)

/-- The unit-status timer starts or restarts for the stored timeout (R28). -/
def State.startUnitTimer (s : State) : State :=
  { s with mode := { s.mode with unitTimer := .running (s.tables.panel.unitTimeoutS * 1000) } }

/-- The unit-status timer runs out (R28). -/
def State.unitTimeout (s : State) : State :=
  ({ s with mode := { s.mode with unitTimer := .expired } }.changeMode none).setFlag flagModeUnknown

/-- The hold timer runs out (R29). -/
def State.holdExpires (s : State) : State := s.takeMode { s.mode with held := none, hold := .stopped }

/-- What an accepted PANEL write does to the tracker, in the order of R30. `before` are the settings it replaced. -/
def State.panelModeEffects (s : State) (before : Panel) : State :=
  let now := s.tables.panel
  let s :=
    if before.modeSource = .set && now.modeSource = .snoop then (s.changeMode none).startUnitTimer
    else if before.modeSource = .snoop && now.modeSource = .set then
      { s with mode := { s.mode with unitTimer := .stopped } }
    else s
  if before.unitNumber = now.unitNumber then s
  else match now.modeSource with
    | .snoop =>
      (s.takeMode { s.mode with effective := none, lastKnown := none, held := none, hold := .stopped }).startUnitTimer
    | .set =>
      match s.mode.effective with
      | some _ => s
      | none => s.takeMode { s.mode with lastKnown := none }

end Sys2Proof.Machine
end

