-- ==== Sys2Proof/Machine/Store.lean ====
section
/-! DEFINITION. The Configuration Store, the supply, and the two resets (chapter 10, R134, R176). -/

namespace Sys2Proof.Machine

def Flight.requestCode : Flight → Byte
  | .freeze _ => 10
  | .store _ _ => 11

/-- Note a refusal in the last refusal record (R166). -/
def State.noteRefusal (s : State) (r : LastRefusal) : State :=
  { s with management := { s.management with lastRefusal := some r } }

def State.setFlight (s : State) (f : Option Flight) : State :=
  { s with management := { s.management with flight := f } }

/-- The values FREEZE-TRIP writes (R176). -/
def Tables.tripArea (t : Tables) : TripArea :=
  { trip := t.trip, votes := t.point.map fun r => r.votes }

/-- A STORE is accepted: the mark is written INVALID and the values are those of the acceptance (R184). -/
def State.beginStore (s : State) : State :=
  { s with nv := { s.nv with markValid := false } }.setFlight (some (.store s.tables .accepted))

/-- Write 3 ends: the image is valid with the values of the acceptance (R184, R185). -/
def Nonvolatile.completeStore (nv : Nonvolatile) (values : Tables) : Nonvolatile :=
  { nv with image := values, markValid := true, checkAgrees := true }

/-- The STORE in flight completes (R185). -/
def State.completeStore (s : State) : State :=
  match s.management.flight with
  | some (.store values _) =>
    (({ s with nv := s.nv.completeStore values }.setFlight none).answerFlight .done).emit (.store .stored)
  | _ => s

/-- The FREEZE-TRIP in flight ends: the area is written and the frozen flag set last (R176). -/
def State.completeFreeze (s : State) : State :=
  match s.management.flight with
  | some (.freeze values) =>
    ({ s with nv := { s.nv with tripArea := some values, frozen := true } }.setFlight none).answerFlight .done
  | _ => s

/-- Whether write 3 of the STORE in flight has begun: not at the instant of the acceptance (R189), and afterwards a free
value (R184; log 9) until it is known. -/
def State.finalWriteBegun (s : State) : StoreStage → Bool
  | .accepted => false
  | .writing => Config.finalWriteBegun s.freeDraws
  | .final => true

/-- Time passes over an operation in flight: the instant of its acceptance is over (R184, R189). -/
def Flight.later : Flight → Flight
  | .store values .accepted => .store values .writing
  | f => f

/-- The SUPPLY-LOW condition begins: a freeze is abandoned, and a store whose write 3 has not begun (R176, R185, R189). A
store whose write 3 has begun is known to have from then on (log 9). STORE-FAIL's records come before the STORE record
(DESIGN CHOICE, log 33). -/
def State.supplyLowMeetsFlight (s : State) : State :=
  match s.management.flight with
  | none => s
  | some (.store values stage) =>
    let begun := s.finalWriteBegun stage
    let s := { s with freeDraws := s.freeDraws + 1 }
    if begun then s.setFlight (some (.store values .final))
    else
      ((((s.setFlight none).setFlag flagStoreFail).emit (.store .abandoned)).answerFlight .busy).noteRefusal
        { request := 11, table := none, index := none, result := .busy }
  | some (.freeze _) =>
    (({ s with nv := { s.nv with tripArea := none } }.setFlight none).answerFlight .busy).noteRefusal
      { request := 10, table := none, index := none, result := .busy }

/-! ## Resets -/

/-- The settings and tables that a reset loads (R187, steps 2 to 4). -/
def Nonvolatile.loaded (nv : Nonvolatile) : Tables :=
  let t := if nv.imageValid then nv.image else Tables.default
  match nv.frozen, nv.tripArea with
  | true, some a => { t with trip := a.trip, point := Vector.ofFn fun p => { t.point[p] with votes := a.votes[p] } }
  | _, _ => t

/-- A channel after reset: LOCKOUT where its lockout record reads SET (R102). -/
def channelAfterReset (locked : Bool) : Channel :=
  if locked then { Channel.atReset with state := .lockout } else Channel.atReset

/-- The part takes its reset values from the stored state (R23, R38, R60, R79, R102, R121, R140, R162, R181, R187). -/
def State.takeReset (s : State) (kind : ResetKind) : State :=
  { State.reset with
    pending := s.pending
    freeDraws := s.freeDraws
    phase := .inReset kind
    straps := s.straps
    nv := s.nv
    tables := s.nv.loaded
    channels := Vector.ofFn fun c => channelAfterReset s.nv.lockout[c] }

/-- The part's operation ends for want of supply: a store whose write 3 has begun is completed from the hold-up store,
every other write stops, and all volatile state is lost (R185, R186; log 9, log 21). -/
def State.endOperation (s : State) : State :=
  let nv := match s.management.flight with
    | some (.store values stage) => if s.finalWriteBegun stage then s.nv.completeStore values else s.nv
    | some (.freeze _) => { s.nv with tripArea := none }
    | none => s.nv
  { State.reset with
    pending := s.pending, freeDraws := s.freeDraws + 1, phase := .off, straps := s.straps, nv }

/-- Take a supply reading (R134, R186). -/
def State.takeSupply (s : State) (tenths : Nat) : State :=
  if tenths < Config.operationEndsBelow then s.endOperation
  else
    let was := s.health.supplyLow
    let low := if was then decide (tenths < Config.supplyLowEndsAt) else decide (tenths < Config.supplyLowBelow)
    let s := { s with health := { s.health with tenths, supplyLow := low } }
    if low && !was then (s.setFlag flagSupplyLow).supplyLowMeetsFlight else s

/-- A pattern reset still waits, for the response, a STORE, a FREEZE-TRIP or a pulse (R178). -/
def State.resetWaits (s : State) : Bool :=
  s.management.pendingReset ≠ some false || s.management.flight.isSome || s.anyFiring

/-- The flags that are set as a reset ends (R140). -/
def State.flagsAtEnd (s : State) (kind : ResetKind) : List (Fin 11) :=
  (ascending 11).filter fun n =>
    if n = flagPowerRestart then kind = .powerOn
    else if n = flagPatternReset then kind = .pattern
    else s.conditionPresent n

/-- The flags of R140 with their records, in ascending order. -/
def State.flagsComeUp (s : State) (kind : ResetKind) : State :=
  forEach (s.flagsAtEnd kind) (fun n s => s.raiseFlag n) s

/-- The Trip Unit comes up: each channel in LOCKOUT activates its window (R61, R98). -/
def State.tripsComeUp (s : State) : State :=
  forEach (ascending 8) (fun c s =>
    if s.channels[c].state = .lockout then s.activateAt s.tables.trip[c].window (.channel c) else s) s

/-- The end of a reset: clocks and timers start, the first readings decide HOT and SUPPLY-LOW, the IN points publish
their votes, the flags are set, and the start-up activations follow in an order that is a free value where it shows,
which is in the Report Queue alone (R23, R38, R61, R124, R134, R140, R187; log 10). -/
def State.finishReset (s : State) (kind : ResetKind) (celsius : Int) (tenths : Nat) : State :=
  let s := { s with
    phase := .running
    health := { s.health with
      celsius, tenths, hot := decide (Config.hotAbove < celsius), supplyLow := decide (tenths < Config.supplyLowBelow) } }
  let s := match s.tables.panel.modeSource with
    | .snoop => s.startUnitTimer
    | .set => s
  let s := forEach (ascending 256) (fun p s => if s.tables.point[p].service = .inn then s.publishVotes p else s) s
  let s := s.flagsComeUp kind
  let healthLast := s.tripsComeUp.evaluateFeeder
  let healthFirst := s.evaluateFeeder.tripsComeUp
  if healthLast.reports = healthFirst.reports then healthLast
  else { (if Config.channelsFirst s.freeDraws then healthLast else healthFirst) with freeDraws := s.freeDraws + 1 }

/-! ## Time -/

/-- One millisecond of a running timer; a timer at 0 waits for its expiry to be taken (log 4, log 5). -/
def Timer.tick : Timer → Timer
  | .running n => .running (n - 1)
  | t => t

/-- One millisecond of the part's own time base (R52, R67). -/
def State.millisecond (s : State) : State :=
  { s with
    flash := (s.flash + 1) % Config.flashPeriod
    points := s.points.map fun p => { p with delay := p.delay.tick }
    entries := s.entries.map fun e => { e with freshness := e.freshness.tick }
    mode := { s.mode with hold := s.mode.hold.tick, unitTimer := s.mode.unitTimer.tick }
    lampTest := s.lampTest.tick
    groups := s.groups.map fun g => { g with settle := g.settle.tick }
    channels := s.channels.map fun c => { c with pulse := c.pulse.tick }
    selection := s.selection.map fun x => { x with age := x.age.tick }
    management := { s.management with keyTimer := s.management.keyTimer.tick } }

/-- Time passes over a port: the instant at which it went UP is over (log 34). -/
def Port.later (q : Port) : Port := { q with justUp := false }

/-- One microsecond of the part's own time base, while it runs (R156; log 4). -/
def State.microsecond (s : State) : State :=
  if s.phase = .running then
    let s := { s with clock := s.clock + 1, field := s.field.later, station := s.station.later }.setFlight
      (s.management.flight.map Flight.later)
    if s.msPhase < 999 then { s with msPhase := s.msPhase + 1 } else { s with msPhase := 0 }.millisecond
  else s

end Sys2Proof.Machine
end

