-- ==== Sys2Proof/Machine/Events.lean ====
section
/-! DEFINITION. The timers of the mode, groups and channels; lamp and coil checks; temperature and supply; the store's ends
and the resets (chapters 2, 4, 5, 7, 10). -/

namespace Sys2Proof.Machine

/-! ## Lamp checks (R125 to R129) -/

/-- Three readings, driven elements alone: SHORT before OPEN (R125). Nothing is OK. -/
def lampReading (levels : Nat × Nat × Nat) (red green blue : ElementReading) : Option FaultKind :=
  let found (k : ElementReading) : Bool :=
    (0 < levels.1 && red = k) || (0 < levels.2.1 && green = k) || (0 < levels.2.2 && blue = k)
  if found .short then some .short else if found .opened then some .opened else none

/-- The fault after a recording (R127). -/
def recordFault (before : Option FaultKind) (reading : FaultKind) : Option FaultKind :=
  match before with
  | some .short => some .short
  | _ => some reading

/-- One reading joins the lamp's run; the second part says whether it was recorded (R126, R127). The reading that brings the
count to 3 is recorded and leaves the run absent at once, not at the following check (DESIGN CHOICE, log 30). -/
def Lamp.take (v : Lamp) (reading : Option FaultKind) : Lamp × Bool :=
  match reading with
  | none => ({ v with run := none }, false)
  | some k =>
    match v.run with
    | some (k', n) =>
      if k' = k then
        if 2 ≤ n then ({ fault := recordFault v.fault k, run := none }, true) else ({ v with run := some (k, n + 1) }, false)
      else ({ v with run := some (k, 1) }, false)
    | none => ({ v with run := some (k, 1) }, false)

/-- A lamp check on a lit lamp (R125 to R129). -/
def State.checkLamp (s : State) (w : Fin 96) (red green blue : ElementReading) : State :=
  let x := s.lamps[w].take (lampReading (s.lampDrive w) red green blue)
  let s := { s with lamps := upd s.lamps w fun _ => x.1 }
  if x.2 then s.evaluateLampFault else s

/-! ## Coil checks (R130, R131) -/

/-- The reading of a coil circuit, in milliohms (R130, log 20). -/
def coilReading (milliohms : Nat) : CoilState :=
  if Config.coilOpenAbove < milliohms then .opened else if milliohms < Config.coilShortBelow then .short else .ok

/-- One reading joins the coil's run; the third equal one is compared with the state, and the run starts again (R130). -/
def Coil.take (v : Coil) (reading : CoilState) : Coil :=
  match v.run with
  | some (r, n) =>
    if r = reading then if 2 ≤ n then { state := reading, run := none } else { v with run := some (reading, n + 1) }
    else { v with run := some (reading, 1) }
  | none => { v with run := some (reading, 1) }

/-- A coil check on a channel whose output is off: a change of state makes its record and may set COIL-FAULT (R131). The COIL
record comes first, before COIL-FAULT's HEALTH and WINDOW records (DESIGN CHOICE, log 33). -/
def State.checkCoil (s : State) (c : Fin 8) (reading : CoilState) : State :=
  let before := s.coils[c].state
  let after := (s.coils[c].take reading).state
  let s := { s with coils := upd s.coils c fun v => v.take reading }
  if after = before then s
  else
    let s := s.emit (.coil c after)
    if after = .ok then s else s.setFlag flagCoilFault

/-! ## Meanings -/

/-- UNIT_STATUS_TIMEOUT (R28). -/
def execUnitStatusTimeout (s : State) : Host.Outcome State Fault Refusal :=
  perform s fun s => if s.mode.unitTimer.isDue then s.unitTimeout else s

/-- HOLD_TIMER_EXPIRY (R29). -/
def execHoldTimerExpiry (s : State) : Host.Outcome State Fault Refusal :=
  perform s fun s => if s.mode.hold.isDue then s.holdExpires else s

/-- SETTLE_TIMER_EXPIRY (R70). -/
def execSettleTimerExpiry (g : Fin 8) (s : State) : Host.Outcome State Fault Refusal :=
  perform s fun s => if s.groups[g].settle.isDue then s.freezeGroup g else s

/-- PULSE_TIMER_EXPIRY (R91). -/
def execPulseTimerExpiry (c : Fin 8) (s : State) : Host.Outcome State Fault Refusal :=
  perform s fun s => if s.channels[c].state = .firing && s.channels[c].pulse.isDue then s.endPulse c else s

/-- LAMP_CHECK (R125 to R129); a dark lamp is not checked. -/
def execLampCheck (w : Fin 96) (red green blue : ElementReading) (s : State) : Host.Outcome State Fault Refusal :=
  perform s fun s => if s.lampLit w then s.checkLamp w red green blue else s

/-- COIL_CHECK (R130, R131); a coil is not checked while its output is on (R132). -/
def execCoilCheck (c : Fin 8) (milliohms : Nat) (s : State) : Host.Outcome State Fault Refusal :=
  perform s fun s => if s.tripOutput c then s else s.checkCoil c (coilReading milliohms)

/-- HOT_BEGINS (R124). -/
def execHotBegins (celsius : Int) (s : State) : Host.Outcome State Fault Refusal :=
  perform s fun s => if !s.health.hot && Config.hotAbove < celsius then s.takeTemperature celsius else s

/-- HOT_ENDS (R124). -/
def execHotEnds (celsius : Int) (s : State) : Host.Outcome State Fault Refusal :=
  perform s fun s => if s.health.hot && celsius ≤ Config.hotEndsAt then s.takeTemperature celsius else s

/-- TEMPERATURE_MEASUREMENT (R124). -/
def execTemperatureMeasurement (celsius : Int) (s : State) : Host.Outcome State Fault Refusal :=
  perform s fun s => s.takeTemperature celsius

/-- SUPPLY_LOW_BEGINS (R134, R176, R185). -/
def execSupplyLowBegins (tenths : Nat) (s : State) : Host.Outcome State Fault Refusal :=
  perform s fun s => if !s.health.supplyLow && tenths < Config.supplyLowBelow then s.takeSupply tenths else s

/-- SUPPLY_LOW_ENDS (R134). -/
def execSupplyLowEnds (tenths : Nat) (s : State) : Host.Outcome State Fault Refusal :=
  perform s fun s => if s.health.supplyLow && Config.supplyLowEndsAt ≤ tenths then s.takeSupply tenths else s

/-- SUPPLY_MEASUREMENT (R134, R186). In a reset no reading comes before the first, which END_OF_RESET brings (DESIGN CHOICE,
log 36). -/
def execSupplyMeasurement (tenths : Nat) (s : State) : Host.Outcome State Fault Refusal :=
  perform s fun s => s.takeSupply tenths

/-- STORE_COMPLETED (R185). -/
def execStoreCompleted (s : State) : Host.Outcome State Fault Refusal :=
  perform s State.completeStore

/-- FREEZE_TRIP_COMPLETED (R176). -/
def execFreezeTripCompleted (s : State) : Host.Outcome State Fault Refusal :=
  perform s State.completeFreeze

/-- PATTERN_RESET_START (R178, R188). -/
def execPatternResetStart (s : State) : Host.Outcome State Fault Refusal :=
  perform s fun s => if s.resetWaits then s else s.takeReset .pattern

/-- OPERATION_ENDS (R186); a part whose operation has ended stays so. -/
def execOperationEnds (s : State) : Host.Outcome State Fault Refusal :=
  .next (if s.phase = .off then s else s.endOperation)

/-- POWER_ON_RESET (R183, R186, R187); it begins where operation has ended. -/
def execPowerOnReset (addrA addrB addrC rate : Fin 4) (s : State) : Host.Outcome State Fault Refusal :=
  .next (if s.phase = .off then { s with straps := { addrA, addrB, addrC, rate } }.takeReset .powerOn else s)

/-- END_OF_RESET with the first readings (R61, R124, R134, R140, R187); a reading below 16.0 V ends operation (R186). -/
def execEndOfReset (celsius : Int) (tenths : Nat) (s : State) : Host.Outcome State Fault Refusal :=
  .next (match s.phase with
    | .inReset kind =>
      if tenths < Config.operationEndsBelow then s.endOperation else s.finishReset kind celsius tenths
    | _ => s)

end Sys2Proof.Machine
end

