-- ==== Sys2Proof/Machine/Frames.lean ====
section
/-! DEFINITION. The other link frames: UNIT-STATUS, TIME-MARK and those no block acts on (R26, R27, R147, R156, R190), and
the frame that each transmitter is sending. -/

namespace Sys2Proof.Machine

/-- A UNIT-STATUS body (R26, R27, R190). -/
def State.takeUnitStatus (s : State) (body : List Byte) : State :=
  match body with
  | [unit, code] =>
    if s.tables.panel.modeSource = .snoop ∧ unit.toNat = s.tables.panel.unitNumber then
      match Mode.ofCode code with
      | none => s
      | some m => s.startUnitTimer.changeMode (some m)
    else s
  | _ => s

/-- A TIME-MARK body (R156, R190). -/
def State.takeTimeMark (s : State) (body : List Byte) : State :=
  match body with
  | [t3, t2, t1, t0] => { s with clock := word32 t3 t2 t1 t0 }
  | _ => s

/-- A good frame that no block acts on: it is not one of the kinds that a command of its own names (R147, R148). -/
def State.noBlockActs (s : State) (f : Frame) : Bool :=
  f.mayBeOther && !(f.kind = 6 && f.dest = s.panelAddress)

/-- UNIT_STATUS (R26, R27, R147). -/
def execUnitStatus (f : LinkFrame) (s : State) : Host.Outcome State Fault Refusal :=
  performFrame s f.port { kind := 3, dest := f.dest, src := f.src, body := f.body } fun s => s.takeUnitStatus f.body

/-- TIME_MARK (R156, R147). -/
def execTimeMark (f : LinkFrame) (s : State) : Host.Outcome State Fault Refusal :=
  performFrame s f.port { kind := 4, dest := f.dest, src := f.src, body := f.body } fun s => s.takeTimeMark f.body

/-- OTHER_FRAME (R147, R148); a frame that another command names does not come about as this one (log 6). -/
def execOtherFrame (port : PortId) (f : Frame) (s : State) : Host.Outcome State Fault Refusal :=
  if s.noBlockActs f then performFrame s port f id else .next s

/-! ## The line out -/

/-- The PANEL-REPORT frame of the `count` oldest records with a carried lost count (R159, 11.2). -/
def State.reportFrame (s : State) (count lost : Nat) : Frame :=
  { kind := 8, dest := 255, src := s.panelAddress
    body := [s.panelAddress, byteOf lost, byteOf count] ++ (s.reports.take count).flatMap Report.bytes }

/-- The frame that a port's transmitter is sending, if any (R150, R155, R159). -/
def State.sending (s : State) (p : PortId) : Option Frame :=
  match (s.port p).tx with
  | .free | .gap => none
  | .transit => (s.port p).fifo.head?
  | .response =>
    match (s.port p).slots with
    | .filled f _ :: _ => some f
    | _ => none
  | .report count lost => some (s.reportFrame count lost)

end Sys2Proof.Machine
end

