-- ==== Sys2Proof/Machine/LinkEvents.lean ====
section
/-! DEFINITION. The link events: frame failures, port states and the ends of transmissions (R142, R145, R150 to R155,
R159). -/

namespace Sys2Proof.Machine

/-- A failure of a frame received at a port: its counter rises (R145, R146). -/
def countFailure (s : State) (p : PortId) (f : Port → Port) : Host.Outcome State Fault Refusal :=
  .next (if s.receives p then s.modPort p f else s)

/-- An own frame of a port has been sent: the forwarded count returns to 0 and the gap follows (R151, R152). -/
def Port.ownSent (q : Port) : Port := { q with forwarded := 0, tx := .gap, justUp := false }

/-- The last byte of a transit frame is sent (R150). -/
def State.transitSent (s : State) (p : PortId) : State :=
  match (s.port p).tx with
  | .transit => s.modPort p fun q => { q with fifo := q.fifo.tail, tx := .gap, justUp := false }
  | _ => s

/-- The last byte of a MGMT-RSP is sent: its slot is EMPTY and the response has left (R155). -/
def State.responseSent (s : State) (p : PortId) : State :=
  match (s.port p).tx with
  | .response =>
    (s.modPort p fun q => { q.ownSent with slots := q.slots.tail }).responsesLeave ((s.port p).slots.take 1)
  | _ => s

/-- The last byte of a PANEL-REPORT is sent: its records leave and the lost count falls by the count carried (R159). -/
def State.reportSent (s : State) : State :=
  match s.station.tx with
  | .report count lost =>
    { s with reports := s.reports.drop count, lost := s.lost - lost, station := s.station.ownSent }
  | _ => s

/-- The minimum gap after a frame has passed (R152). -/
def State.gapPassed (s : State) (p : PortId) : State :=
  match (s.port p).tx with
  | .gap => s.modPort p fun q => { q with tx := .free }
  | _ => s

/-- A DOWN port finds line signalling (R142). -/
def State.portTrains (s : State) (p : PortId) : State :=
  if (s.port p).status = .down then s.modPort p fun q => { q with status := .training } else s

/-- A TRAINING port goes UP, and its arbiter chooses at this instant (R142, R143; log 34). -/
def State.portGoesUp (s : State) (p : PortId) : State :=
  if (s.port p).status = .training then s.modPort p fun q => { q with status := .up, justUp := true } else s

/-- CRC_FAILURE (R145, R146). -/
def execCrcFailure (p : PortId) (s : State) : Host.Outcome State Fault Refusal :=
  countFailure s p fun q => { q with crc := countUp Config.portCounterMax q.crc }

/-- LENGTH_FAILURE (R145, R146). -/
def execLengthFailure (p : PortId) (s : State) : Host.Outcome State Fault Refusal :=
  countFailure s p fun q => { q with length := countUp Config.portCounterMax q.length }

/-- STALL_FAILURE (R145, R146). -/
def execStallFailure (p : PortId) (s : State) : Host.Outcome State Fault Refusal :=
  countFailure s p fun q => { q with stall := countUp Config.portCounterMax q.stall }

/-- LINE_SIGNALLING_FOUND (R142). -/
def execLineSignallingFound (p : PortId) (s : State) : Host.Outcome State Fault Refusal :=
  perform s fun s => s.portTrains p

/-- PORT_UP (R142, R143). -/
def execPortUp (p : PortId) (s : State) : Host.Outcome State Fault Refusal :=
  perform s fun s => s.portGoesUp p

/-- PORT_DOWN (R142, R143). -/
def execPortDown (p : PortId) (s : State) : Host.Outcome State Fault Refusal :=
  perform s fun s => if (s.port p).status = .down then s else s.portGoesDown p

/-- TRANSIT_FRAME_SENT (R150). -/
def execTransitFrameSent (p : PortId) (s : State) : Host.Outcome State Fault Refusal :=
  perform s fun s => s.transitSent p

/-- MGMT_RSP_SENT (R155). -/
def execMgmtRspSent (p : PortId) (s : State) : Host.Outcome State Fault Refusal :=
  perform s fun s => s.responseSent p

/-- PANEL_REPORT_SENT (R159). -/
def execPanelReportSent (s : State) : Host.Outcome State Fault Refusal :=
  perform s State.reportSent

/-- TRANSMITTER_FREE (R152). -/
def execTransmitterFree (p : PortId) (s : State) : Host.Outcome State Fault Refusal :=
  perform s fun s => s.gapPassed p

end Sys2Proof.Machine
end

