-- ==== Sys2Proof/Machine/Operands.lean ====
section
/-! DEFINITION. Operand forms: the bodies of the link frames and the records that WRITE carries, with the value ranges
their owning rules give (R1, R14, R25, R39, R62, R80, R104, R110, R122, R123, R129, R137, R190, R191). -/

namespace Sys2Proof.Machine

/-! ## Bodies of the scan frames (11.2, R190) -/

structure ScanStateBody where
  scanner : Nat
  seq     : Byte
  stamp   : Stamp
  count   : Nat
  states  : List Byte
deriving DecidableEq, Repr

/-- A SCAN-STATE body that is acted on. -/
def parseScanState (body : List Byte) : Option ScanStateBody :=
  match body with
  | scanner :: seq :: t3 :: t2 :: t1 :: t0 :: n :: states =>
    if scanner.toNat ≤ 31 ∧ 1 ≤ n.toNat ∧ n.toNat ≤ 64 ∧ states.length = (n.toNat + 7) / 8 then
      some { scanner := scanner.toNat, seq, stamp := word32 t3 t2 t1 t0, count := n.toNat, states }
    else none
  | _ => none

/-- The state a SCAN-STATE carries for a channel; nothing for a channel it does not carry (R9). -/
def ScanStateBody.state (b : ScanStateBody) (c : Nat) : Option Raw :=
  if c < b.count then some (if (b.states.getD (c / 8) 0).getLsbD (c % 8) then .set else .clear) else none

structure ChangeRecord where
  channel : Byte
  state   : Byte
  offset  : Nat
deriving DecidableEq, Repr

structure ScanChangeBody where
  scanner : Nat
  seq     : Byte
  base    : Stamp
  records : List ChangeRecord
deriving DecidableEq, Repr

/-- Records of four bytes, back to back. -/
def parseChanges : List Byte → List ChangeRecord
  | channel :: state :: hi :: lo :: rest => { channel, state, offset := word16 hi lo } :: parseChanges rest
  | _ => []

/-- A SCAN-CHANGE body that is acted on. -/
def parseScanChange (body : List Byte) : Option ScanChangeBody :=
  match body with
  | scanner :: seq :: t3 :: t2 :: t1 :: t0 :: m :: records =>
    if scanner.toNat ≤ 31 ∧ 1 ≤ m.toNat ∧ m.toNat ≤ 16 ∧ records.length = 4 * m.toNat then
      some { scanner := scanner.toNat, seq, base := word32 t3 t2 t1 t0, records := parseChanges records }
    else none
  | _ => none

/-- A record's raw value, when its channel and state code are in range (R190). -/
def ChangeRecord.raw (r : ChangeRecord) : Option Raw :=
  if 63 < r.channel.toNat then none else twoValued r.state .clear .set

/-- A record's stamp (R11). -/
def ChangeRecord.stamp (r : ChangeRecord) (base : Stamp) : Stamp := base + BitVec.ofNat 32 r.offset

/-! ## Fields -/

/-- A number within bounds. -/
def within (lo hi n : Nat) : Option Nat := if lo ≤ n ∧ n ≤ hi then some n else none

def byteWithin (lo hi : Nat) (b : Byte) : Option Byte := if lo ≤ b.toNat ∧ b.toNat ≤ hi then some b else none

/-- A set of `n` members carried in `b`: nothing when a weight names no member (R191). -/
def setField (n : Nat) (b : Nat) : Option (BitVec n) := if b < 2 ^ n then some (BitVec.ofNat n b) else none

def MatchMode.ofCode (b : Byte) : Option MatchMode :=
  if b = 0 then some .mask else if b = 1 then some .pair else if b = 2 then some .range else none

def StaleRule.ofCode (b : Byte) : Option StaleRule :=
  if b = 0 then some .holdLast else if b = 1 then some .countTrip else if b = 2 then some .countClear else none

/-! ## Records of the configuration tables (11.4). Nothing: the record's length is wrong. `some none`: BAD-VALUE. -/

/-- PANEL, 19 bytes: scheme, level and direction are not examined and stand as they are (R170). -/
def parsePanel (now : Panel) (rec : List Byte) : Option (Option Panel) :=
  match rec with
  | [unit, mm, mask, ali, low, high, hw, hm1, hm0, tc, mh1, mh0, ut, ms, age, dim, _, _, _] =>
    some do
      let unitNumber ← within 1 8 unit.toNat
      let matchMode ← MatchMode.ofCode mm
      let matchMask ← byteWithin 0 63 mask
      let aliasAddress ← byteWithin 0 63 ali
      let rangeLow ← byteWithin 0 63 low
      let rangeHigh ← byteWithin low.toNat 63 high
      let healthWindow ← index? 96 hw.toNat
      let healthMasks ← setField 11 (word16 hm1 hm0)
      let testColour ← index? 8 tc.toNat
      let modeHoldMs ← within 0 30000 (word16 mh1 mh0)
      let unitTimeoutS ← within 1 60 ut.toNat
      let modeSource ← twoValued ms .snoop .set
      let selectionAgeS ← within 2 30 age.toNat
      some { now with
        unitNumber, matchMode, matchMask, aliasAddress, rangeLow, rangeHigh, healthWindow, healthMasks, testColour,
        modeHoldMs, unitTimeoutS, modeSource, selectionAgeS, globalDim := dim }
  | _ => none

/-- SOURCE, 7 bytes: scanner 255 is an empty entry (R1, R2). -/
def parseSource (rec : List Byte) : Option (Option (Option SourceEntry)) :=
  match rec with
  | [sc, fc, n, fp, p1, p0, mult] =>
    some <|
      if sc = 255 then some none
      else do
        let scanner ← index? 32 sc.toNat
        let firstChannel ← within 0 63 fc.toNat
        let count ← within 1 64 n.toNat
        let periodMs ← within 10 10000 (word16 p1 p0)
        let multiple ← within 2 8 mult.toNat
        if firstChannel + count ≤ (if scanner = 31 then 8 else 64) ∧ fp.toNat + count ≤ 256 then
          some (some { scanner, firstChannel, count, firstPoint := fp.toNat, periodMs, multiple })
        else none
  | _ => none

/-- The counted vote slots: at most four distinct channels (R14). -/
def parseVotes (n : Nat) (slots : List Byte) : Option (List (Fin 8)) := do
  let _ ← within 0 4 n
  let votes ← (slots.take n).mapM fun b => index? 8 b.toNat
  if votes.Nodup then some votes else none

/-- POINT, 14 bytes; the service field must be OUT (R14, R171). -/
def parsePoint (rec : List Byte) : Option (Option PointRecord) :=
  match rec with
  | [sv, pol, on1, on0, off1, off0, w, g, inh, n, v0, v1, v2, v3] =>
    some do
      let service ← if sv = 0 then some Service.out else none
      let polarity ← twoValued pol .alarmOnSet .alarmOnClear
      let onDelay ← within 0 60000 (word16 on1 on0)
      let offDelay ← within 0 60000 (word16 off1 off0)
      let window ← absentOr 96 w
      let group ← absentOr 8 g
      let inhibit ← setField 7 inh.toNat
      let votes ← parseVotes n.toNat [v0, v1, v2, v3]
      some { service, polarity, onDelay, offDelay, window, group, inhibit, votes }
  | _ => none

/-- WINDOW, 5 bytes (R39). -/
def parseWindow (rec : List Byte) : Option (Option WindowRecord) :=
  match rec with
  | [st, h, nc, fc, brightness] =>
    some do
      let sequence ← twoValued st .auto .manual
      let horn ← twoValued h false true
      let normalColour ← index? 8 nc.toNat
      let firstOutColour ← index? 8 fc.toNat
      some { sequence, horn, normalColour, firstOutColour, brightness }
  | _ => none

/-- PALETTE, 3 bytes: every byte is a level (R122). -/
def parseColour (rec : List Byte) : Option (Option Colour) :=
  match rec with
  | [red, green, blue] => some (some { red, green, blue })
  | _ => none

/-- GROUP, 2 bytes (R62). -/
def parseGroup (rec : List Byte) : Option (Option GroupRecord) :=
  match rec with
  | [t, e] =>
    some do
      let settleMs ← within 1 250 t.toNat
      let enable ← twoValued e false true
      some { settleMs, enable }
  | _ => none

/-- TRIP, 7 bytes: a permit set never names ISOLATED (R80, R81). -/
def parseTrip (rec : List Byte) : Option (Option TripRecord) :=
  match rec with
  | [k, ps, sr, p1, p0, w, e] =>
    some do
      let required ← within 1 8 k.toNat
      let permits ← if ps.toNat < 2 ^ 6 then setField 7 ps.toNat else none
      let stale ← StaleRule.ofCode sr
      let pulseMs ← within 20 2000 (word16 p1 p0)
      let _ ← within 0 0 (pulseMs % 10)
      let window ← absentOr 96 w
      let enable ← twoValued e false true
      some { required, permits, stale, pulseMs, window, enable }
  | _ => none

/-- LAMP-MASK, 1 byte (R129). -/
def parseLampMask (rec : List Byte) : Option (Option Bool) :=
  match rec with
  | [m] => some (twoValued m false true)
  | _ => none

end Sys2Proof.Machine
end

