-- ==== Sys2Proof/Machine/Tables.lean ====
section
/-! DEFINITION. The sixteen tables as management reads them, and the status record (11.4, R24, R59, R78, R100, R139, R146,
R167, R179). -/

namespace Sys2Proof.Machine

/-! ## Configuration records -/

/-- The PANEL record gives the scheme, level and direction as they stand (R167); that the mark "not examined on WRITE" does
not make them read 0 (R191) is the model's reading (DEDUCED, log 35). -/
def Panel.bytes (p : Panel) : List Byte :=
  [byteOf p.unitNumber, p.matchMode.code, p.matchMask, p.aliasAddress, p.rangeLow, p.rangeHigh,
   byteOf p.healthWindow.val] ++ bytes16 p.healthMasks.toNat ++ [byteOf p.testColour.val] ++ bytes16 p.modeHoldMs ++
  [byteOf p.unitTimeoutS, p.modeSource.code, byteOf p.selectionAgeS, p.globalDim,
   p.scheme.code, byteOf p.level, p.direction.code]

/-- An empty entry carries scanner 255 and reads 0 elsewhere. -/
def sourceBytes : Option SourceEntry → List Byte
  | none => [255, 0, 0, 0, 0, 0, 0]
  | some e =>
    [byteOf e.scanner.val, byteOf e.firstChannel, byteOf e.count, byteOf e.firstPoint] ++ bytes16 e.periodMs ++
    [byteOf e.multiple]

/-- Votes in list order; slots beyond the count read 255. -/
def PointRecord.bytes (r : PointRecord) : List Byte :=
  [r.service.code, r.polarity.code] ++ bytes16 r.onDelay ++ bytes16 r.offDelay ++
  [indexField (r.window.map (·.val)), indexField (r.group.map (·.val)), byteOf r.inhibit.toNat, byteOf r.votes.length] ++
  (r.votes.map (fun c => byteOf c.val) ++ List.replicate (4 - r.votes.length) 255)

def WindowRecord.bytes (r : WindowRecord) : List Byte :=
  [r.sequence.code, flagByte r.horn, byteOf r.normalColour.val, byteOf r.firstOutColour.val, r.brightness]

def Colour.bytes (c : Colour) : List Byte := [c.red, c.green, c.blue]

def GroupRecord.bytes (r : GroupRecord) : List Byte := [byteOf r.settleMs, flagByte r.enable]

def TripRecord.bytes (r : TripRecord) : List Byte :=
  [byteOf r.required, byteOf r.permits.toNat, r.stale.code] ++ bytes16 r.pulseMs ++
  [indexField (r.window.map (·.val)), flagByte r.enable]

/-! ## Read-only records -/

/-- POINT-STATE (R24). -/
def State.pointState (s : State) (p : Fin 256) : List Byte :=
  let v := s.points[p]
  [s.tables.point[p].service.code, (match v.raw with | none => 255 | some r => rawCode r), v.quality.code,
   v.condition.code, flagByte v.delay.isRunning] ++ stampField v.changeStamp ++ stampField v.alarmStamp ++
  [flagByte (s.inhibited p), flagByte (s.feederActive p)]

/-- WINDOW-STATE (R59); the colour reads 255 while the pattern is dark. -/
def State.windowState (s : State) (w : Fin 96) : List Byte :=
  let v := s.windows[w]
  [v.state.code] ++ bytes16 v.feeders.length ++ [flagByte (v.feeders.contains .health),
   byteOf (weights 8 fun i => v.feeders.any fun f => match f with | .channel c => c.val = i | _ => false),
   byteOf v.markers.toNat, (s.pattern w).code,
   if s.pattern w = .dark then 255 else byteOf (s.colourOf w).val]

/-- GROUP-LIST (R78). -/
def State.groupList (s : State) (g : Fin 8) : List Byte :=
  let v := s.groups[g]
  [v.state.code, flagByte s.tables.group[g].enable, byteOf v.overflow] ++ stampField v.origin ++
  [flagByte v.settle.isRunning, indexField (v.marker.map (·.val)), byteOf v.entries.length] ++
  v.entries.flatMap (fun e => byteOf e.point.val :: bytes32 e.stamp ++ [flagByte e.late]) ++
  List.replicate (6 * (16 - v.entries.length)) 255

/-- TRIP-STATE (R100). -/
def State.tripState (s : State) (c : Fin 8) : List Byte :=
  let v := s.channels[c]
  [v.state.code] ++ bytes16 v.count ++ bytes16 v.voters.length ++ [flagByte v.permit] ++
  bytes16 (if v.state = .firing then v.pulse.left else 0) ++ [flagByte s.nv.lockout[c], s.coils[c].state.code]

/-- SCANNER (R24): the entries naming the scanner in entry order; slots beyond the count read 255. -/
def State.scannerRecord (s : State) (n : Fin 31) : List Byte :=
  let v := s.scanners[n]
  let named := (ascending 24).filter fun e =>
    match s.tables.source[e] with
    | none => false
    | some r => r.scanner.val = n.val
  (match v.last with | none => [0, 0] | some q => [1, q]) ++ [v.status.code, byteOf named.length] ++
  named.flatMap (fun e => [byteOf e.val, s.entries[e].freshness.code, flagByte s.entries[e].gapPending]) ++
  List.replicate (3 * (24 - named.length)) 255

/-- HEALTH (R139). -/
def State.healthRecord (s : State) : List Byte :=
  bytes16 s.health.flags.toNat ++
  bytes16 (weights 11 fun i => match index? 11 i with | none => false | some n => s.conditionPresent n) ++
  bytes16 s.tables.panel.healthMasks.toNat ++
  [flagByte s.health.feeder, byteOf (s.health.celsius + 128).toNat, flagByte s.health.hot, flagByte s.health.hot] ++
  bytes16 s.health.tenths ++ [flagByte s.health.supplyLow]

/-- LAMP-FAULT (R139). -/
def State.lampFault (s : State) (w : Fin 96) : List Byte :=
  let v := s.lamps[w]
  [(match v.fault with | none => 0 | some k => k.code)] ++
  (match v.run with | none => [255, 0] | some (k, n) => [k.code, byteOf n]) ++
  [flagByte s.tables.lampMask[w], flagByte (s.keptDark w)]

/-- COUNTERS (R146). -/
def State.counters (s : State) (p : PortId) : List Byte :=
  let q := s.port p
  bytes16 q.crc ++ bytes16 q.length ++ bytes16 q.stall ++ bytes16 q.overflow ++ bytes16 q.unanswered ++
  [q.status.code, byteOf q.fifo.length, byteOf q.slots.length, byteOf s.reports.length, byteOf s.lost]

/-- One record of a table; nothing beyond the table. -/
def State.record (s : State) (t : TableId) (i : Nat) : List Byte :=
  let at' {n : Nat} (f : Fin n → List Byte) : List Byte :=
    match index? n i with
    | none => []
    | some k => f k
  match t with
  | .panel => at' (n := 1) fun _ => s.tables.panel.bytes
  | .source => at' fun k : Fin 24 => sourceBytes s.tables.source[k]
  | .point => at' fun k : Fin 256 => s.tables.point[k].bytes
  | .window => at' fun k : Fin 96 => s.tables.window[k].bytes
  | .palette => at' fun k : Fin 8 => s.tables.palette[k].bytes
  | .group => at' fun k : Fin 8 => s.tables.group[k].bytes
  | .trip => at' fun k : Fin 8 => s.tables.trip[k].bytes
  | .lampMask => at' fun k : Fin 96 => [flagByte s.tables.lampMask[k]]
  | .pointState => at' s.pointState
  | .windowState => at' s.windowState
  | .groupList => at' s.groupList
  | .tripState => at' s.tripState
  | .scanner => at' s.scannerRecord
  | .health => at' (n := 1) fun _ => s.healthRecord
  | .lampFault => at' s.lampFault
  | .counters => at' (n := 2) fun k => s.counters (if k.val = 0 then .field else .station)

/-- The data of an answered READ or READ-NEXT: table, first index, record count and the records (11.3). -/
def State.readData (s : State) (t : TableId) (first count : Nat) : List Byte :=
  [t.code, byteOf first, byteOf count] ++ (List.range count).flatMap fun k => s.record t (first + k)

/-- What a pending pattern reset still waits for, as weights (R178, 11.4). -/
def State.waitsFor (s : State) : Nat :=
  match s.management.pendingReset with
  | none => 0
  | some response =>
    (if response then 1 else 0) +
    (match s.management.flight with | some (.store _ _) => 2 | some (.freeze _) => 4 | none => 0) +
    (if s.anyFiring then 8 else 0)

/-- The status record (R179, 11.4). -/
def State.statusRecord (s : State) : List Byte :=
  let m := s.management
  [effectiveCode s.mode.effective, absentModeCode s.mode.lastKnown, absentModeCode s.mode.held,
   flagByte s.mode.hold.isRunning, s.tables.panel.modeSource.code, s.mode.unitTimer.code] ++
  [s.horn.code, flagByte s.hornOutput, flagByte s.lampTest.isRunning, byteOf s.lampTest.leftSeconds] ++
  [s.panelAddress] ++
  (match s.selection with
   | none => [0, 255, 255, 255, 0]
   | some x => [1, x.console, x.target.kind, x.target.index, byteOf x.age.leftSeconds]) ++
  [s.tables.panel.globalDim, flagByte s.health.hot] ++ bytes32 s.clock ++
  (match m.lastRefusal with
   | none => [0, 255, 255, 255, 255]
   | some r => [1, r.request, r.table.getD 255, r.index.getD 255, r.result.code]) ++
  [byteOf m.keyProgress, flagByte m.keyTimer.isRunning, flagByte m.pendingReset.isSome, byteOf s.waitsFor] ++
  [flagByte (match m.flight with | some (.store _ _) => true | _ => false),
   flagByte (match m.flight with | some (.freeze _) => true | _ => false),
   flagByte s.nv.frozen, s.tables.panel.scheme.code, byteOf s.tables.panel.level, s.tables.panel.direction.code] ++
  bytes16 (weights 16 fun i => match index? 16 i with | none => false | some b => m.locks[b] = .unlocked) ++
  [m.readTable.code] ++ bytes16 m.readIndex ++ [byteOf m.readCount]

end Sys2Proof.Machine
end

