-- ==== Sys2Proof/Machine/Management.lean ====
section
/-! DEFINITION. The Management Unit: how a request is admitted, judged and answered, and the requests that carry no
configuration record (chapter 9, R31, R136, R184, R191). -/

namespace Sys2Proof.Machine

/-! ## Admission and answer (R154, R155, R163 to R166, R177) -/

/-- How a request was judged: the state it leaves, its result (none while its operation is in flight), its data, the key
progress it leaves, and whether it was the fourth key of the reset pattern. -/
structure Judgement where
  state    : State
  result   : Option ResultCode
  data     : List Byte := []
  progress : Nat := 0
  fourth   : Bool := false

def refuse (s : State) (r : ResultCode) : Judgement := { state := s, result := some r }

def done (s : State) : Judgement := { state := s, result := some .done }

def answer (s : State) (data : List Byte) : Judgement := { state := s, result := some .done, data }

/-- Accepted, and answered when its operation has ended (R163). -/
def inFlight (s : State) : Judgement := { state := s, result := none }

/-- The request as the last refusal record holds it (R166). -/
structure Asked where
  code  : Byte
  table : Option Byte
  index : Option Byte
deriving DecidableEq, Repr

/-- The key progress after a request, and the key timer with it (R177). -/
def State.setProgress (s : State) (n : Nat) : State :=
  { s with management := { s.management with
      keyProgress := n, keyTimer := if n = 0 then .stopped else .running Config.keyTimerMs } }

/-- The pattern is complete: a reset becomes pending, which waits for this response (R178). -/
def State.pendReset (s : State) : State :=
  { s with management := { s.management with pendingReset := some true } }

/-- A refusal of any kind replaces the last refusal record (R166). -/
def State.noteResult (s : State) (a : Asked) (r : Option ResultCode) : State :=
  match r with
  | none | some .done => s
  | some result => s.noteRefusal { request := a.code, table := a.table, index := a.index, result }

/-- An EMPTY slot becomes RESERVED for a request, behind the slots before it (R154). -/
abbrev State.reserveSlot (s : State) (p : PortId) (id : BitVec 16) (src : Byte) : State :=
  s.modPort p fun q => { q with slots := q.slots ++ [.reserved id src] }

/-- The answer fills the slot that the request has just reserved; without one the slot stays RESERVED until the
request's operation ends (R155, R163). -/
def State.fillNewest (s : State) (p : PortId) (id : BitVec 16) (src : Byte) (j : Judgement) : State :=
  match j.result with
  | none => s
  | some r =>
    s.modPort p fun q =>
      { q with slots := q.slots.dropLast ++ [.filled (s.response id src r (if r = .done then j.data else [])) j.fourth] }

/-- A consumed request at the response slots of its port. An admitted one has its slot RESERVED when it is taken, which a
read of COUNTERS sees (R146, R154). STATUS reads the key progress as it stood: the request sets it to 0 afterwards (R177,
R179; log 26). -/
def State.takeRequest (s : State) (p : PortId) (id : BitVec 16) (src : Byte) (a : Asked) (judge : State → Judgement) : State :=
  if Config.responseSlots ≤ (s.port p).slots.length then
    s.modPort p fun q => { q with unanswered := countUp Config.portCounterMax q.unanswered }
  else
    let j := judge (s.reserveSlot p id src)
    let s := (j.state.setProgress j.progress).noteResult a j.result
    let s := if j.fourth then s.pendReset else s
    s.fillNewest p id src j

/-- A step that takes a consumed request; nothing arrives while the port does not receive (R143, R148). -/
def performRequest (s : State) (r : Request) (a : Asked) (judge : State → Judgement) :
    Host.Outcome State Fault Refusal :=
  .next (if s.receives r.port then settle s (s.takeRequest r.port r.id r.src a judge) else s)

/-! ## General checks (R164, R165, R191) -/

/-- A request without a table, and its index where it carries one (log 15). -/
def asked (code : Byte) (index : Option Byte) : Asked := { code, table := none, index }

/-- WRITE, SERVICE and PROTECT wait for a STORE or FREEZE-TRIP (R165). -/
def unlessFlight (s : State) (j : Judgement) : Judgement := if s.management.flight.isSome then refuse s .busy else j

/-- FREEZE-TRIP and STORE wait for each other and for a pending pattern reset (R165). -/
def unlessHeldBack (s : State) (j : Judgement) : Judgement :=
  if s.management.flight.isSome || s.management.pendingReset.isSome then refuse s .busy else j

/-- A request without arguments: any argument is a wrong length (R191). -/
def noArgs (s : State) (args : List Byte) (j : Judgement) : Judgement :=
  match args with
  | [] => j
  | _ => refuse s .badLength

/-! ## Reading (R168, R169) -/

def State.setPointer (s : State) (t : TableId) (i : Nat) : State :=
  { s with management := { s.management with readTable := t, readIndex := i } }

def State.setReadCount (s : State) (n : Nat) : State :=
  { s with management := { s.management with readCount := n } }

/-- A READ after its general checks (R168). -/
def State.readTable (s : State) (t : TableId) (first count : Nat) : Judgement :=
  if ¬(1 ≤ count ∧ count ≤ 8) then refuse s .badValue
  else if t.size < first + count then refuse s .badIndex
  else if Config.responseRecordBytes < count * t.recordBytes then refuse s .badLength
  else answer ((s.setPointer t (first + count)).setReadCount count) (s.readData t first count)

def State.judgeRead (s : State) (args : List Byte) : Judgement :=
  match args with
  | [t, first, count] =>
    match TableId.ofCode t with
    | none => refuse s .badTable
    | some t => s.readTable t first.toNat count.toNat
  | _ => refuse s .badLength

/-- The table byte as the refusal record holds it: absent when check 3 failed (R166). -/
def readTableByte (args : List Byte) : Option Byte :=
  match args with
  | [t, _, _] => if (TableId.ofCode t).isSome then some t else none
  | _ => args.head?

/-- How many records a READ-NEXT gives (R169). -/
def State.nextCount (s : State) : Nat :=
  let m := s.management
  min m.readCount (min (m.readTable.size - m.readIndex) (Config.responseRecordBytes / m.readTable.recordBytes))

def State.judgeReadNext (s : State) : Judgement :=
  let m := s.management
  if m.readTable.size ≤ m.readIndex then refuse s .badIndex
  else
    let n := s.nextCount
    answer (s.setPointer m.readTable (m.readIndex + n)) (s.readData m.readTable m.readIndex n)

/-! ## Service, locks and protection (R172 to R175) -/

def State.judgeService (s : State) (args : List Byte) : Judgement :=
  match args with
  | [p, st] =>
    unlessFlight s <|
      match index? 256 p.toNat with
      | none => refuse s .badIndex
      | some p =>
        match twoValued st Service.out .inn with
        | none => refuse s .badValue
        | some .out => done (s.serviceOut p)
        | some .inn => done (s.serviceIn p)
  | _ => refuse s .badLength

/-- Protection covers a point (R172, R173). -/
def State.covered (s : State) (p : Fin 256) : Bool :=
  let q := s.tables.panel
  match q.scheme with
  | .block =>
    match index? 16 (p.val / 16) with
    | none => false
    | some b => s.management.locks[b] = .locked
  | .range =>
    let n := if q.level = 0 then 0 else 8 * 2 ^ q.level
    match q.direction with
    | .top => 256 ≤ p.val + n
    | .bottom => p.val < n

def State.setLock (s : State) (b : Fin 16) (l : Lock) : State :=
  { s with management := { s.management with locks := upd s.management.locks b fun _ => l } }

def State.setAllLocks (s : State) (l : Lock) : State :=
  { s with management := { s.management with locks := Vector.replicate 16 l } }

/-- LOCK-BLOCK and UNLOCK-BLOCK: the block number, then the maintenance condition for an unlock (R173). -/
def State.judgeLock (s : State) (l : Lock) (args : List Byte) : Judgement :=
  match args with
  | [b] =>
    match index? 16 b.toNat with
    | none => refuse s .badIndex
    | some b => if l = .unlocked && !s.maintenance then refuse s .refusedMaintenance else done (s.setLock b l)
  | _ => refuse s .badLength

def State.judgeLockAll (s : State) (l : Lock) : Judgement :=
  if l = .unlocked && !s.maintenance then refuse s .refusedMaintenance else done (s.setAllLocks l)

def State.setProtection (s : State) (scheme : Scheme) (level : Nat) (direction : Direction) : State :=
  { s with tables := { s.tables with panel := { s.tables.panel with scheme, level, direction } } }

/-- The three values of a PROTECT, when each is in range (R174). -/
def parseProtect (scheme level direction : Byte) : Option (Scheme × Nat × Direction) := do
  let sc ← twoValued scheme Scheme.range .block
  let lv ← within 0 5 level.toNat
  let d ← twoValued direction Direction.top .bottom
  some (sc, lv, d)

def State.judgeProtect (s : State) (args : List Byte) : Judgement :=
  match args with
  | [scheme, level, direction] =>
    unlessFlight s <|
      match parseProtect scheme level direction with
      | none => refuse s .badValue
      | some (sc, lv, d) =>
        if s.maintenance then done (s.setProtection sc lv d) else refuse s .refusedMaintenance
  | _ => refuse s .badLength

/-! ## Freeze, store and reset key (R176 to R178, R184) -/

def State.judgeFreeze (s : State) : Judgement :=
  unlessHeldBack s <|
    if s.nv.frozen then refuse s .refusedFrozen
    else if !s.maintenance then refuse s .refusedMaintenance
    else if s.anyTripped then refuse s .refusedActive
    else if s.health.supplyLow then refuse s .busy
    else inFlight (s.setFlight (some (.freeze s.tables.tripArea)))

/-- A STORE refused for SUPPLY-LOW sets STORE-FAIL (R184). -/
def State.judgeStore (s : State) : Judgement :=
  unlessHeldBack s <|
    if s.health.supplyLow then refuse (s.setFlag flagStoreFail) .busy else inFlight s.beginStore

/-- The key progress after a key (R177), and whether the key completes the pattern. -/
def keyStep (progress : Nat) (key : Byte) : Nat × Bool :=
  if key = 0 then (if progress = 2 then 3 else 1, false)
  else if key = 1 then (if progress = 1 then 2 else 0, progress = 3)
  else (0, false)

def State.judgeKey (s : State) (args : List Byte) : Judgement :=
  match args with
  | [key] =>
    if s.management.pendingReset.isSome then refuse s .busy
    else
      let k := keyStep s.management.keyProgress key
      { state := s, result := some .done, progress := k.1, fourth := k.2 }
  | _ => refuse s .badLength

/-- The key timer runs out (R177). -/
def State.keyExpires (s : State) : State := s.setProgress 0

/-! ## The other requests -/

/-- SET-MODE: the value, then the mode source (R31). -/
def State.judgeSetMode (s : State) (args : List Byte) : Judgement :=
  match args with
  | [m] =>
    match Mode.ofCode m with
    | none => refuse s .badValue
    | some m =>
      match s.tables.panel.modeSource with
      | .snoop => refuse s .refusedProtected
      | .set => done (s.changeMode (some m))
  | _ => refuse s .badLength

def State.clearRefusal (s : State) : State :=
  { s with management := { s.management with lastRefusal := none } }

/-- What a body of a MGMT-REQ that carries no whole request code, or an unknown one, gives: its request id, its code as
received and its result (R166, R191). Nothing: another row's request. -/
def badRequest (body : List Byte) : Option (BitVec 16 × Byte × ResultCode) :=
  match body with
  | i1 :: i0 :: code :: _ =>
    if 1 ≤ code.toNat ∧ code.toNat ≤ 16 then none else some (BitVec.ofNat 16 (word16 i1 i0), code, .badValue)
  | _ => some (BitVec.ofNat 16 (word16 (body.getD 0 0) (body.getD 1 0)), 0, .badLength)

/-! ## Meanings -/

/-- READ (R168). -/
def execRead (r : Request) (s : State) : Host.Outcome State Fault Refusal :=
  performRequest s r { code := 1, table := readTableByte r.args, index := r.args[1]? } fun s => s.judgeRead r.args

/-- READ_NEXT (R169). -/
def execReadNext (r : Request) (s : State) : Host.Outcome State Fault Refusal :=
  performRequest s r (asked 2 none) fun s => noArgs s r.args s.judgeReadNext

/-- SERVICE_OUT (R18, R175). -/
def execServiceOut (r : Request) (s : State) : Host.Outcome State Fault Refusal :=
  performRequest s r (asked 4 r.args.head?) fun s => s.judgeService r.args

/-- SERVICE_IN (R19, R175). -/
def execServiceIn (r : Request) (s : State) : Host.Outcome State Fault Refusal :=
  performRequest s r (asked 4 r.args.head?) fun s => s.judgeService r.args

/-- LOCK_BLOCK (R173). -/
def execLockBlock (r : Request) (s : State) : Host.Outcome State Fault Refusal :=
  performRequest s r (asked 5 r.args.head?) fun s => s.judgeLock .locked r.args

/-- UNLOCK_BLOCK (R173). -/
def execUnlockBlock (r : Request) (s : State) : Host.Outcome State Fault Refusal :=
  performRequest s r (asked 6 r.args.head?) fun s => s.judgeLock .unlocked r.args

/-- LOCK_ALL (R173). -/
def execLockAll (r : Request) (s : State) : Host.Outcome State Fault Refusal :=
  performRequest s r (asked 7 none) fun s => noArgs s r.args (s.judgeLockAll .locked)

/-- UNLOCK_ALL (R173). -/
def execUnlockAll (r : Request) (s : State) : Host.Outcome State Fault Refusal :=
  performRequest s r (asked 8 none) fun s => noArgs s r.args (s.judgeLockAll .unlocked)

/-- PROTECT (R174). -/
def execProtect (r : Request) (s : State) : Host.Outcome State Fault Refusal :=
  performRequest s r (asked 9 none) fun s => s.judgeProtect r.args

/-- FREEZE_TRIP (R176). -/
def execFreezeTrip (r : Request) (s : State) : Host.Outcome State Fault Refusal :=
  performRequest s r (asked 10 none) fun s => noArgs s r.args s.judgeFreeze

/-- STORE (R184). -/
def execStore (r : Request) (s : State) : Host.Outcome State Fault Refusal :=
  performRequest s r (asked 11 none) fun s => noArgs s r.args s.judgeStore

/-- CLEAR_HEALTH (R136). -/
def execClearHealth (r : Request) (s : State) : Host.Outcome State Fault Refusal :=
  performRequest s r (asked 12 none) fun s => noArgs s r.args (done s.clearAllHealth)

/-- CLEAR_REFUSAL (R166). -/
def execClearRefusal (r : Request) (s : State) : Host.Outcome State Fault Refusal :=
  performRequest s r (asked 13 none) fun s => noArgs s r.args (done s.clearRefusal)

/-- SET_MODE (R31). -/
def execSetMode (r : Request) (s : State) : Host.Outcome State Fault Refusal :=
  performRequest s r (asked 14 none) fun s => s.judgeSetMode r.args

/-- STATUS (R179). -/
def execStatus (r : Request) (s : State) : Host.Outcome State Fault Refusal :=
  performRequest s r (asked 15 none) fun s => noArgs s r.args (answer s s.statusRecord)

/-- RESET_KEY (R177, R178). -/
def execResetKey (r : Request) (s : State) : Host.Outcome State Fault Refusal :=
  performRequest s r (asked 16 none) fun s => s.judgeKey r.args

/-- BAD_REQUEST_CODE (R164, R166, R191); a body with a known code is another row's (log 19). -/
def execBadRequestCode (port : PortId) (src : Byte) (body : List Byte) (s : State) :
    Host.Outcome State Fault Refusal :=
  match badRequest body with
  | none => .next s
  | some (id, code, result) =>
    performRequest s { port, src, id, args := [] } (asked code none) fun s => refuse s result

/-- KEY_TIMER_EXPIRY (R177). -/
def execKeyTimerExpiry (s : State) : Host.Outcome State Fault Refusal :=
  perform s fun s => if s.management.keyTimer.isDue then s.keyExpires else s

end Sys2Proof.Machine
end

