-- ==== Sys2Proof/Machine/Scan.lean ====
section
/-! DEFINITION. The scan frames, the direct inputs and the timers of points and Source Map entries (chapter 1). -/

namespace Sys2Proof.Machine

/-! ## The tracking list (R4 to R7) -/

/-- The four outcomes of the sequence rule (R6). -/
inductive SequenceOutcome
  | first
  | duplicate
  | inSequence
  | gap
deriving DecidableEq, Repr

def sequenceRule (last : Option Byte) (q : Byte) : SequenceOutcome :=
  match last with
  | none => .first
  | some l => if q = l then .duplicate else if q = l + 1 then .inSequence else .gap

/-- The tracking record after a frame that is not a duplicate (R6, R7). -/
def Scanner.accept (v : Scanner) (q : Byte) (o : SequenceOutcome) : Scanner :=
  { last := some q
    status := match o with
      | .first => .tracking
      | .gap => .gap
      | _ => v.status }

/-- Entry `e` is non-empty and names scanner `n`. -/
def Tables.entryNames (t : Tables) (e : Fin 24) (n : Nat) : Bool :=
  match t.source[e] with
  | none => false
  | some r => r.scanner.val = n

/-- Entry `e` is covered by a SCAN-STATE of scanner `n` with channel count `count` (R1). -/
def Tables.covers (t : Tables) (e : Fin 24) (n count : Nat) : Bool :=
  match t.source[e] with
  | none => false
  | some r => r.scanner.val = n && r.firstChannel + r.count ≤ count

/-- The duration a covering frame starts a freshness timer for (R10). -/
def Tables.freshnessMs (t : Tables) (e : Fin 24) : Nat :=
  match t.source[e] with
  | none => 0
  | some r => r.periodMs * r.multiple

/-- A gap marks every entry of the scanner gap-pending (R7). -/
def State.markGap (s : State) (n : Nat) : State :=
  { s with entries := Vector.ofFn fun e =>
      if s.tables.entryNames e n then { s.entries[e] with gapPending := true } else s.entries[e] }

/-- The entries that a SCAN-STATE covers (R10). -/
def State.coverEntries (s : State) (n count : Nat) : State :=
  { s with entries := Vector.ofFn fun e =>
      if s.tables.covers e n count then { freshness := .running (s.tables.freshnessMs e), gapPending := false }
      else s.entries[e] }

/-- A scanner in GAP with no gap-pending entry left goes to TRACKING (R3, R10). -/
def State.resolveGap (s : State) (k : Fin 31) : State :=
  if s.scanners[k].status = .gap &&
      !((ascending 24).any fun e => s.tables.entryNames e k.val && s.entries[e].gapPending) then
    { s with scanners := upd s.scanners k fun v => { v with status := .tracking } }
  else s

/-- The scanner that the tracking list acts for: one that a non-empty entry names, and not S31 (R5). -/
def State.trackedScanner (s : State) (n : Nat) : Option (Fin 31) :=
  if s.tables.namesScanner n then index? 31 n else none

/-- The tracking side of an accepted frame: its number, and its gap (R6, R7). -/
def State.acceptScan (s : State) (k : Fin 31) (q : Byte) (o : SequenceOutcome) : State :=
  let s := { s with scanners := upd s.scanners k fun v => v.accept q o }
  if o = .gap then s.markGap k.val else s

/-! ## SCAN-STATE (R8 to R10) -/

/-- All of a SCAN-STATE frame's changes for one point: the gap, the raw input, the covering, and the one evaluation. -/
def scanPoint (r : PointRecord) (gap covered : Bool) (carried : Option Raw) (t : Stamp) (v : Point) : Point :=
  let v1 := if gap then { v with quality := v.quality.gapped } else v
  let changed := carried.isSome && v1.raw ≠ carried
  let v2 := if changed then { v1 with raw := carried, changeStamp := some t } else v1
  let v3 := if covered then { v2 with quality := .good } else v2
  if changed || (covered && v.quality = .unseen) then takeRawChange r v3 else v3

/-- One channel of an accepted SCAN-STATE: a point that the frame changes publishes once (R8). -/
def State.scanChannel (s : State) (b : ScanStateBody) (gap : Bool) (c : Nat) : State :=
  match s.tables.mapChannel b.scanner c with
  | none => s
  | some (e, p) =>
    let v := s.points[p]
    let v' := scanPoint s.tables.point[p] gap (s.tables.covers e b.scanner b.count) (b.state c) b.stamp v
    if v' = v then s else s.changePoint p fun _ => v'

/-- What the Source Map and the Point Unit do with a SCAN-STATE body (R5 to R10). -/
def State.takeScanState (s : State) (b : ScanStateBody) : State :=
  match s.trackedScanner b.scanner with
  | none => s
  | some k =>
    let o := sequenceRule s.scanners[k].last b.seq
    if o = .duplicate then s
    else
      let s := ((s.acceptScan k b.seq o).coverEntries b.scanner b.count).resolveGap k
      forEach (List.range 64) (fun c s => s.scanChannel b (o = .gap) c) s

/-! ## SCAN-CHANGE (R8, R11) -/

/-- The points mapped from a scanner's entries, in ascending channel order. -/
def State.pointsOf (s : State) (n : Nat) : List (Fin 256) :=
  (List.range 64).filterMap fun c => (s.tables.mapChannel n c).map (·.2)

/-- The gap's change of quality, before any point publishes (R7). -/
def State.gapQualities (s : State) (points : List (Fin 256)) : State :=
  forEach points (fun p s => s.modPoint p fun v => { v with quality := v.quality.gapped }) s

/-- One record of an accepted SCAN-CHANGE, with the points that have published so far (R11). -/
def applyChange (b : ScanChangeBody) (x : State × List (Fin 256)) (r : ChangeRecord) : State × List (Fin 256) :=
  match r.raw with
  | none => x
  | some raw =>
    match x.1.tables.mapChannel b.scanner r.channel.toNat with
    | none => x
    | some (_, p) =>
      if x.1.points[p].raw = some raw then x
      else
        (x.1.changePoint p fun v =>
          takeRawChange x.1.tables.point[p] { v with raw := some raw, changeStamp := some (r.stamp b.base) }, p :: x.2)

/-- What the Source Map and the Point Unit do with a SCAN-CHANGE body (R5 to R8, R11). -/
def State.takeScanChange (s : State) (b : ScanChangeBody) : State :=
  match s.trackedScanner b.scanner with
  | none => s
  | some k =>
    let o := sequenceRule s.scanners[k].last b.seq
    if o = .duplicate then s
    else
      let doubted :=
        if o = .gap then (s.pointsOf b.scanner).filter fun p => s.points[p].quality.gapped ≠ s.points[p].quality else []
      let (t, published) := b.records.foldl (applyChange b) ((s.acceptScan k b.seq o).gapQualities doubted, [])
      forEach (doubted.filter fun p => p ∉ published) (fun p s => s.publishVotes p) t

/-! ## Direct inputs (R12) -/

/-- A debounced reading that differs from the last, or is the first. -/
def State.takeReading (s : State) (k : Fin 8) (raw : Raw) : State :=
  if s.inputs[k].reading = some raw then s
  else
    let s := { s with inputs := upd s.inputs k fun v => { v with reading := some raw } }
    match s.tables.mapChannel 31 k.val with
    | none => s
    | some (_, p) =>
      s.changePoint p fun v =>
        takeRawChange s.tables.point[p] { v with raw := some raw, changeStamp := some s.clock, quality := .good }

/-! ## Timers (R13, R16) -/

/-- An entry's freshness timer runs out: its points go STALE in ascending order, then SCANNER-STALE is set (log 13). -/
def State.freshnessExpires (s : State) (e : Fin 24) : State :=
  let s := { s with entries := upd s.entries e fun v => { v with freshness := .expired } }
  let s := forEach (rangeOf s.tables.source[e]) (fun p s => s.changePoint p fun v => { v with quality := .stale }) s
  s.setFlag flagScannerStale

/-! ## Meanings -/

/-- SCAN_STATE (R5 to R10, R147). -/
def execScanState (f : LinkFrame) (s : State) : Host.Outcome State Fault Refusal :=
  performFrame s f.port { kind := 1, dest := f.dest, src := f.src, body := f.body } fun s =>
    match parseScanState f.body with
    | none => s
    | some b => s.takeScanState b

/-- SCAN_CHANGE (R5 to R8, R11, R147). -/
def execScanChange (f : LinkFrame) (s : State) : Host.Outcome State Fault Refusal :=
  performFrame s f.port { kind := 2, dest := f.dest, src := f.src, body := f.body } fun s =>
    match parseScanChange f.body with
    | none => s
    | some b => s.takeScanChange b

/-- DEBOUNCED_READING (R12). -/
def execDebouncedReading (k : Fin 8) (raw : Raw) (s : State) : Host.Outcome State Fault Refusal :=
  perform s fun s => s.takeReading k raw

/-- FRESHNESS_TIMER_EXPIRY (R13). -/
def execFreshnessTimerExpiry (e : Fin 24) (s : State) : Host.Outcome State Fault Refusal :=
  perform s fun s => if s.entries[e].freshness.isDue then s.freshnessExpires e else s

/-- DELAY_TIMER_EXPIRY (R16). -/
def execDelayTimerExpiry (p : Fin 256) (s : State) : Host.Outcome State Fault Refusal :=
  perform s fun s => if s.points[p].delay.isDue then s.changePoint p takeDelayExpiry else s

end Sys2Proof.Machine
end

