-- ==== Sys2Proof/Machine/Writes.lean ====
section
/-! DEFINITION. The WRITE requests: each table's checks and effects (R170, and the rules of the tables' owners). -/

namespace Sys2Proof.Machine

/-! ## What every WRITE shares (R164, R165, R169, R170) -/

/-- An accepted WRITE: its effect, and the read pointer behind the record written (R169). -/
def written (s : State) (t : TableId) (i : Nat) : Judgement := done (s.setPointer t (i + 1))

/-- A WRITE after its table byte: the length, BUSY, the index and the values, in that order, and then the table's own
rule. `parse` gives nothing for a wrong length, and `some none` for a value out of range. -/
def State.judgeWrite {α : Type} (s : State) (n : Nat) (args : List Byte) (parse : List Byte → Option (Option α))
    (own : Fin n → α → Judgement) : Judgement :=
  match args with
  | [] => refuse s .badLength
  | i :: rec =>
    match parse rec with
    | none => refuse s .badLength
    | some value =>
      unlessFlight s <|
        match index? n i.toNat with
        | none => refuse s .badIndex
        | some i =>
          match value with
          | none => refuse s .badValue
          | some x => own i x

/-- The step of a WRITE row of table `t` (R163, R166, R191). -/
def performWrite (s : State) (r : Request) (t : TableId) (judge : State → Judgement) : Host.Outcome State Fault Refusal :=
  performRequest s r { code := 3, table := some t.code, index := r.args.head? } judge

def State.modTables (s : State) (f : Tables → Tables) : State := { s with tables := f s.tables }

/-! ## PANEL (R30, R42, R137, R170) -/

/-- The health feeder after a PANEL write: the masks first, toward the old window, and then the move (R42, R137). -/
def State.panelHealthEffects (s : State) (before : Panel) : State :=
  let now := s.tables.panel.healthWindow
  let s := s.modTables fun t => { t with panel := { t.panel with healthWindow := before.healthWindow } }
  let s := if before.healthMasks = s.tables.panel.healthMasks then s else s.evaluateFeeder
  let s := s.modTables fun t => { t with panel := { t.panel with healthWindow := now } }
  if before.healthWindow = now || !s.health.feeder then s
  else (s.deactivate before.healthWindow .health).activate now .health

/-- An accepted PANEL write (order: log 14). -/
def State.writePanel (s : State) (p : Panel) : State :=
  let before := s.tables.panel
  ((s.modTables fun t => { t with panel := p }).panelModeEffects before).panelHealthEffects before

/-! ## SOURCE (R2, R3) -/

def rangesMeet (a n b m : Nat) : Bool := a < b + m && b < a + n

/-- The written entry shares points, or channels of its scanner, with another non-empty entry (R2). -/
def State.sourceOverlaps (s : State) (i : Fin 24) (e : SourceEntry) : Bool :=
  (ascending 24).any fun j =>
    j ≠ i && match s.tables.source[j] with
      | none => false
      | some o =>
        rangesMeet e.firstPoint e.count o.firstPoint o.count ||
          (e.scanner = o.scanner && rangesMeet e.firstChannel e.count o.firstChannel o.count)

/-- A point loses its source (R3). -/
def Point.unmapped (v : Point) : Point :=
  { v with raw := none, changeStamp := none, quality := .unseen, condition := .normal, delay := .stopped }

/-- A point of a new S31 entry takes the present reading of its input, when there is one (R3). -/
def State.takePresentReading (s : State) (r : SourceEntry) (c : Fin 8) : State :=
  match r.pointOf c.val, s.inputs[c].reading with
  | some p, some raw =>
    s.modPoint p fun v => { v with raw := some raw, quality := .good, changeStamp := some s.clock }
  | _, _ => s

/-- The scanner named by an entry leaves GAP when nothing is pending any longer (R3). -/
def State.resolveGapOf (s : State) (e : Option SourceEntry) : State :=
  match e with
  | none => s
  | some r =>
    match index? 31 r.scanner.val with
    | none => s
    | some k => s.resolveGap k

/-- An accepted SOURCE write (R3). -/
def State.writeSource (s : State) (i : Fin 24) (e : Option SourceEntry) : State :=
  let before := s.tables.source[i]
  let s := s.modTables fun t => { t with source := upd t.source i fun _ => e }
  let s := { s with entries := upd s.entries i fun _ => { freshness := .stopped, gapPending := false } }
  let s := forEach (rangeOf before ++ rangeOf e) (fun p s => s.modPoint p Point.unmapped) s
  let s := match e with
    | none => s
    | some r =>
      if r.scanner.val = 31 then forEach (ascending 8) (fun c s => s.takePresentReading r c) s else s
  (s.resolveGapOf before).resolveGapOf e

def State.judgeSource (s : State) (i : Fin 24) (e : Option SourceEntry) : Judgement :=
  if (match e with | none => false | some r => s.sourceOverlaps i r) then refuse s .badValue
  else if (rangeOf s.tables.source[i] ++ rangeOf e).any fun p => s.tables.point[p].service = .inn then
    refuse s .refusedInService
  else written (s.writeSource i e) .source i.val

/-! ## POINT (R14, R171) -/

def State.judgePoint (s : State) (p : Fin 256) (r : PointRecord) : Judgement :=
  if s.covered p then refuse s .refusedProtected
  else if s.tables.point[p].service = .inn then refuse s .refusedInService
  else if s.nv.frozen && s.tables.point[p].votes ≠ r.votes then refuse s .refusedFrozen
  else written (s.modTables fun t => { t with point := upd t.point p fun _ => r }) .point p.val

/-! ## WINDOW (R40, R57) -/

/-- An accepted WINDOW write: the horn is tested when a window in ALERT goes from horn YES to NO. -/
def State.writeWindow (s : State) (w : Fin 96) (r : WindowRecord) : State :=
  let before := s.tables.window[w]
  let s := s.modTables fun t => { t with window := upd t.window w fun _ => r }
  if before.horn && !r.horn && s.windows[w].state = .alert then s.hornCheck else s

/-! ## GROUP (R63) -/

def State.writeGroup (s : State) (g : Fin 8) (r : GroupRecord) : State :=
  let before := s.tables.group[g]
  let s := s.modTables fun t => { t with group := upd t.group g fun _ => r }
  if before.enable && !r.enable then s.resetGroup g else s

/-! ## TRIP (R81, R82) -/

def State.writeTrip (s : State) (c : Fin 8) (r : TripRecord) : State :=
  (s.modTables fun t => { t with trip := upd t.trip c fun _ => r }).bringUp c

def State.judgeTrip (s : State) (c : Fin 8) (r : TripRecord) : Judgement :=
  if s.nv.frozen then refuse s .refusedFrozen
  else if !s.maintenance then refuse s .refusedMaintenance
  else if s.channels[c].state = .firing || s.channels[c].state = .lockout then refuse s .refusedActive
  else written (s.writeTrip c r) .trip c.val

/-! ## PALETTE and LAMP-MASK (R122, R129) -/

def State.writeColour (s : State) (i : Fin 8) (c : Colour) : State :=
  s.modTables fun t => { t with palette := upd t.palette i fun _ => c }

def State.writeLampMask (s : State) (w : Fin 96) (masked : Bool) : State :=
  (s.modTables fun t => { t with lampMask := upd t.lampMask w fun _ => masked }).evaluateLampFault

/-! ## A table that is not a configuration table (R164, R191) -/

/-- The result of a WRITE without a table byte, or with a table code 8 to 255; nothing for another row's request. -/
def readOnlyWrite (args : List Byte) : Option ResultCode :=
  match args with
  | [] => some .badLength
  | [t] => if 8 ≤ t.toNat then some .badLength else none
  | t :: _ => if 8 ≤ t.toNat then some .badTable else none

/-- The table byte in the refusal record: absent when check 3 failed (R166, log 15). -/
def readOnlyTableByte (args : List Byte) : Option Byte :=
  match args with
  | [t] => some t
  | _ => none

/-! ## Meanings -/

/-- WRITE_PANEL (R170). -/
def execWritePanel (r : Request) (s : State) : Host.Outcome State Fault Refusal :=
  performWrite s r .panel fun s =>
    s.judgeWrite 1 r.args (parsePanel s.tables.panel) fun i p => written (s.writePanel p) .panel i.val

/-- WRITE_SOURCE (R2, R3). -/
def execWriteSource (r : Request) (s : State) : Host.Outcome State Fault Refusal :=
  performWrite s r .source fun s => s.judgeWrite 24 r.args parseSource s.judgeSource

/-- WRITE_POINT (R171). -/
def execWritePoint (r : Request) (s : State) : Host.Outcome State Fault Refusal :=
  performWrite s r .point fun s => s.judgeWrite 256 r.args parsePoint s.judgePoint

/-- WRITE_WINDOW (R39, R40). -/
def execWriteWindow (r : Request) (s : State) : Host.Outcome State Fault Refusal :=
  performWrite s r .window fun s =>
    s.judgeWrite 96 r.args parseWindow fun w x => written (s.writeWindow w x) .window w.val

/-- WRITE_PALETTE (R122). -/
def execWritePalette (r : Request) (s : State) : Host.Outcome State Fault Refusal :=
  performWrite s r .palette fun s =>
    s.judgeWrite 8 r.args parseColour fun i x => written (s.writeColour i x) .palette i.val

/-- WRITE_GROUP (R62, R63). -/
def execWriteGroup (r : Request) (s : State) : Host.Outcome State Fault Refusal :=
  performWrite s r .group fun s =>
    s.judgeWrite 8 r.args parseGroup fun g x => written (s.writeGroup g x) .group g.val

/-- WRITE_TRIP (R81, R82). -/
def execWriteTrip (r : Request) (s : State) : Host.Outcome State Fault Refusal :=
  performWrite s r .trip fun s => s.judgeWrite 8 r.args parseTrip s.judgeTrip

/-- WRITE_LAMP_MASK (R129). -/
def execWriteLampMask (r : Request) (s : State) : Host.Outcome State Fault Refusal :=
  performWrite s r .lampMask fun s =>
    s.judgeWrite 96 r.args parseLampMask fun w m => written (s.writeLampMask w m) .lampMask w.val

/-- WRITE_READ_ONLY_TABLE (R164, R191); a configuration table is another row's (log 19). -/
def execWriteReadOnlyTable (r : Request) (s : State) : Host.Outcome State Fault Refusal :=
  match readOnlyWrite r.args with
  | none => .next s
  | some result =>
    performRequest s r { code := 3, table := readOnlyTableByte r.args, index := r.args[1]? } fun s => refuse s result

end Sys2Proof.Machine
end

