-- ==== Sys2Proof/Machine/Dispatch.lean ====
section
/-! DEFINITION. The meaning of every command: one arm per constructor. -/

namespace Sys2Proof.Machine

/-- The effect of a command on everything but the queue. -/
def exec (i : Instr) (s : State) : Host.Outcome State Fault Refusal :=
  match i with
  | .scanState f => Sys2Proof.Machine.execScanState f s
  | .scanChange f => Sys2Proof.Machine.execScanChange f s
  | .unitStatus f => Sys2Proof.Machine.execUnitStatus f s
  | .timeMark f => Sys2Proof.Machine.execTimeMark f s
  | .otherFrame port f => Sys2Proof.Machine.execOtherFrame port f s
  | .ack c => Sys2Proof.Machine.execAck c s
  | .reset c => Sys2Proof.Machine.execReset c s
  | .silence c => Sys2Proof.Machine.execSilence c s
  | .lampTestStart c => Sys2Proof.Machine.execLampTestStart c s
  | .lampTestStop c => Sys2Proof.Machine.execLampTestStop c s
  | .select c => Sys2Proof.Machine.execSelect c s
  | .execute c => Sys2Proof.Machine.execExecute c s
  | .cancel c => Sys2Proof.Machine.execCancel c s
  | .read r => Sys2Proof.Machine.execRead r s
  | .readNext r => Sys2Proof.Machine.execReadNext r s
  | .writePanel r => Sys2Proof.Machine.execWritePanel r s
  | .writeSource r => Sys2Proof.Machine.execWriteSource r s
  | .writePoint r => Sys2Proof.Machine.execWritePoint r s
  | .writeWindow r => Sys2Proof.Machine.execWriteWindow r s
  | .writePalette r => Sys2Proof.Machine.execWritePalette r s
  | .writeGroup r => Sys2Proof.Machine.execWriteGroup r s
  | .writeTrip r => Sys2Proof.Machine.execWriteTrip r s
  | .writeLampMask r => Sys2Proof.Machine.execWriteLampMask r s
  | .writeReadOnlyTable r => Sys2Proof.Machine.execWriteReadOnlyTable r s
  | .serviceOut r => Sys2Proof.Machine.execServiceOut r s
  | .serviceIn r => Sys2Proof.Machine.execServiceIn r s
  | .lockBlock r => Sys2Proof.Machine.execLockBlock r s
  | .unlockBlock r => Sys2Proof.Machine.execUnlockBlock r s
  | .lockAll r => Sys2Proof.Machine.execLockAll r s
  | .unlockAll r => Sys2Proof.Machine.execUnlockAll r s
  | .protect r => Sys2Proof.Machine.execProtect r s
  | .freezeTrip r => Sys2Proof.Machine.execFreezeTrip r s
  | .store r => Sys2Proof.Machine.execStore r s
  | .clearHealth r => Sys2Proof.Machine.execClearHealth r s
  | .clearRefusal r => Sys2Proof.Machine.execClearRefusal r s
  | .setMode r => Sys2Proof.Machine.execSetMode r s
  | .status r => Sys2Proof.Machine.execStatus r s
  | .resetKey r => Sys2Proof.Machine.execResetKey r s
  | .badRequestCode port src body => Sys2Proof.Machine.execBadRequestCode port src body s
  | .crcFailure port => Sys2Proof.Machine.execCrcFailure port s
  | .lengthFailure port => Sys2Proof.Machine.execLengthFailure port s
  | .stallFailure port => Sys2Proof.Machine.execStallFailure port s
  | .lineSignallingFound port => Sys2Proof.Machine.execLineSignallingFound port s
  | .portUp port => Sys2Proof.Machine.execPortUp port s
  | .portDown port => Sys2Proof.Machine.execPortDown port s
  | .transitFrameSent port => Sys2Proof.Machine.execTransitFrameSent port s
  | .mgmtRspSent port => Sys2Proof.Machine.execMgmtRspSent port s
  | .panelReportSent => Sys2Proof.Machine.execPanelReportSent s
  | .transmitterFree port => Sys2Proof.Machine.execTransmitterFree port s
  | .debouncedReading input reading => Sys2Proof.Machine.execDebouncedReading input reading s
  | .freshnessTimerExpiry entry => Sys2Proof.Machine.execFreshnessTimerExpiry entry s
  | .delayTimerExpiry point => Sys2Proof.Machine.execDelayTimerExpiry point s
  | .unitStatusTimeout => Sys2Proof.Machine.execUnitStatusTimeout s
  | .holdTimerExpiry => Sys2Proof.Machine.execHoldTimerExpiry s
  | .settleTimerExpiry group => Sys2Proof.Machine.execSettleTimerExpiry group s
  | .pulseTimerExpiry channel => Sys2Proof.Machine.execPulseTimerExpiry channel s
  | .ageTimerExpiry => Sys2Proof.Machine.execAgeTimerExpiry s
  | .lampTestExpiry => Sys2Proof.Machine.execLampTestExpiry s
  | .keyTimerExpiry => Sys2Proof.Machine.execKeyTimerExpiry s
  | .lampCheck window red green blue => Sys2Proof.Machine.execLampCheck window red green blue s
  | .coilCheck channel milliohms => Sys2Proof.Machine.execCoilCheck channel milliohms s
  | .hotBegins celsius => Sys2Proof.Machine.execHotBegins celsius s
  | .hotEnds celsius => Sys2Proof.Machine.execHotEnds celsius s
  | .supplyLowBegins tenths => Sys2Proof.Machine.execSupplyLowBegins tenths s
  | .supplyLowEnds tenths => Sys2Proof.Machine.execSupplyLowEnds tenths s
  | .storeCompleted => Sys2Proof.Machine.execStoreCompleted s
  | .freezeTripCompleted => Sys2Proof.Machine.execFreezeTripCompleted s
  | .patternResetStart => Sys2Proof.Machine.execPatternResetStart s
  | .operationEnds => Sys2Proof.Machine.execOperationEnds s
  | .powerOnReset addrA addrB addrC rate => Sys2Proof.Machine.execPowerOnReset addrA addrB addrC rate s
  | .endOfReset celsius tenths => Sys2Proof.Machine.execEndOfReset celsius tenths s
  | .temperatureMeasurement celsius => Sys2Proof.Machine.execTemperatureMeasurement celsius s
  | .supplyMeasurement tenths => Sys2Proof.Machine.execSupplyMeasurement tenths s

end Sys2Proof.Machine
end

