-- ==== Sys2Proof/Machine/Receiver.lean ====
section
/-! DEFINITION. The host interface: the line symbols and contact samples that make commands (R12, R141 to R148, R191;
log 17, log 18). It moves the receivers and the debouncers and puts commands at the end of the queue. -/

namespace Sys2Proof.Machine

/-! ## Which command a received frame is -/

/-- A consumed MGMT-REQ by its request code; WRITE by its table, SERVICE by its state (R148, 11.3, log 19). -/
def classifyRequest (port : PortId) (src : Byte) (body : List Byte) : Instr :=
  match body with
  | i1 :: i0 :: code :: args =>
    let r : Request := { port, src, id := BitVec.ofNat 16 (word16 i1 i0), args }
    let write : Instr := match args with
      | [] => .writeReadOnlyTable r
      | t :: rest =>
        let q := { r with args := rest }
        match TableId.ofCode t with
        | some .panel => .writePanel q
        | some .source => .writeSource q
        | some .point => .writePoint q
        | some .window => .writeWindow q
        | some .palette => .writePalette q
        | some .group => .writeGroup q
        | some .trip => .writeTrip q
        | some .lampMask => .writeLampMask q
        | _ => .writeReadOnlyTable r
    let service : Instr := match args with
      | [_, st] => if st = 1 then .serviceIn r else .serviceOut r
      | _ => .serviceOut r
    match code.toNat with
    | 1 => .read r
    | 2 => .readNext r
    | 3 => write
    | 4 => service
    | 5 => .lockBlock r
    | 6 => .unlockBlock r
    | 7 => .lockAll r
    | 8 => .unlockAll r
    | 9 => .protect r
    | 10 => .freezeTrip r
    | 11 => .store r
    | 12 => .clearHealth r
    | 13 => .clearRefusal r
    | 14 => .setMode r
    | 15 => .status r
    | 16 => .resetKey r
    | _ => .badRequestCode port src body
  | _ => .badRequestCode port src body

/-- A CONSOLE-CMD by its command code; nothing for a wrong length or code (R103). -/
def classifyConsole (port : PortId) (f : Frame) : Option Instr :=
  match f.body with
  | [console, command, targetKind, targetIndex] =>
    let c : ConsoleFrame := { port, dest := f.dest, src := f.src, console, targetKind, targetIndex }
    match command.toNat with
    | 1 => some (.ack c)
    | 2 => some (.reset c)
    | 3 => some (.silence c)
    | 4 => some (.lampTestStart c)
    | 5 => some (.lampTestStop c)
    | 6 => some (.select c)
    | 7 => some (.execute c)
    | 8 => some (.cancel c)
    | _ => none
  | _ => none

/-- The Frame Classifier: the command that a good frame is (R147, R148). -/
def classifyFrame (panelAddress : Byte) (port : PortId) (f : Frame) : Instr :=
  let l : LinkFrame := { port, dest := f.dest, src := f.src, body := f.body }
  match f.kind.toNat with
  | 1 => .scanState l
  | 2 => .scanChange l
  | 3 => .unitStatus l
  | 4 => .timeMark l
  | 5 => (classifyConsole port f).getD (.otherFrame port f)
  | 6 => if f.dest = panelAddress then classifyRequest port f.src f.body else .otherFrame port f
  | _ => .otherFrame port f

/-- The command that a closed frame's bytes are (R145). -/
def classify (panelAddress : Byte) (port : PortId) (bytes : List Byte) : Instr :=
  match checkFrame bytes with
  | .good f => classifyFrame panelAddress port f
  | .lengthFailure => .lengthFailure port
  | .crcFailure => .crcFailure port

/-! ## The receiver (R141 to R145) -/

/-- Byte times in 20 ms at the latched rate (R141, R142). -/
def State.downByteTimes (s : State) : Nat := 6250 * 2 ^ s.straps.rate.val

/-- Byte times without a symbol that end an open frame (R145). -/
def stallByteTimes : Nat := 33

/-- Bytes after the sync byte at which an open frame is overlong (R145). -/
def overlongBytes : Nat := 247

/-- Idle symbols that bring a TRAINING port up (R142). -/
def upIdleSymbols : Nat := 64

/-- One symbol at an UP port's reception: the command it makes, if any (R144, R145). -/
def receive (panelAddress : Byte) (port : PortId) (r : Reception) (x : Symbol) : Reception × Option Instr :=
  match r, x with
  | .afterIdle, .data b => (if b = Config.syncByte then .frame [] 0 else .skipping, none)
  | .afterIdle, _ => (.afterIdle, none)
  | .skipping, .idle => (.afterIdle, none)
  | .skipping, _ => (.skipping, none)
  | .frame bytes _, .data b =>
    if bytes.length + 1 = overlongBytes then (.skipping, some (.lengthFailure port))
    else (.frame (bytes ++ [b]) 0, none)
  | .frame bytes _, .idle => (.afterIdle, some (classify panelAddress port bytes))
  | .frame bytes n, .absent =>
    if n + 1 = stallByteTimes then (.skipping, some (.stallFailure port)) else (.frame bytes (n + 1), none)

/-- The runs of idle symbols and of byte times without a symbol, counted no further than they are looked at (R142). -/
def State.countRuns (s : State) (r : Receiver) (x : Symbol) : Receiver :=
  { r with
    idleRun := if x = .idle then min upIdleSymbols (r.idleRun + 1) else 0
    silentRun := if x = .absent then min s.downByteTimes (r.silentRun + 1) else 0 }

/-- The port event that a symbol makes, if any (R142). -/
def State.portEvent (s : State) (p : PortId) (before after : Receiver) (x : Symbol) : Option Instr :=
  let status := (s.port p).status
  if status ≠ .up ∧ after.idleRun = upIdleSymbols ∧ before.idleRun ≠ upIdleSymbols then some (.portUp p)
  else if status = .down ∧ x ≠ .absent then some (.lineSignallingFound p)
  else if status ≠ .down ∧ after.silentRun = s.downByteTimes ∧ before.silentRun ≠ s.downByteTimes then some (.portDown p)
  else none

def State.enqueue (s : State) (i : Option Instr) : State :=
  match i with
  | none => s
  | some i => { s with pending := s.pending ++ [i] }

/-- One byte time on a port's line. A part that is not running receives nothing (R186, R187). -/
def State.feedSymbol (s : State) (p : PortId) (x : Symbol) : State :=
  if s.phase = .running then
    let before := (s.port p).rx
    let after := s.countRuns before x
    let event := s.portEvent p before after x
    if (s.port p).status = .up then
      let (reception, made) := receive s.panelAddress p before.reception x
      ((s.modPort p fun q => { q with rx := { after with reception } }).enqueue made).enqueue event
    else
      (s.modPort p fun q => { q with rx := { after with reception := if x = .idle then .afterIdle else .skipping } }).enqueue
        event
  else s

/-! ## The contact inputs (R12) -/

/-- One sample of a contact; the last component says that a level has held long enough. -/
def DirectInput.sample (v : DirectInput) (level : Raw) : DirectInput × Bool :=
  let run := if v.level = some level then min Config.debounceSamples (v.run + 1) else 1
  ({ v with level := some level, run },
    run = Config.debounceSamples && !(v.level = some level && v.run = Config.debounceSamples))

/-- One 1 ms sample of the eight contacts, closed contacts being the members of the set. -/
def State.sampleInputs (s : State) (closed : BitVec 8) : State :=
  if s.phase = .running then
    forEach (ascending 8) (fun k s =>
      let level : Raw := if inSet closed k.val then .set else .clear
      let x := s.inputs[k].sample level
      { s with inputs := upd s.inputs k fun _ => x.1 }.enqueue (if x.2 then some (.debouncedReading k level) else none)) s
  else s

end Sys2Proof.Machine
end

