-- ==== Sys2Proof/Safety.lean ====
section
/-! DEFINITION. What every step keeps, one predicate on State for each part of the machine, and the words that statements
about one command use. -/

namespace Sys2Proof.Machine

/-! ## Outside operation (R186, R187, log 21) -/

/-- Before the end of a reset the volatile state is that of reset, with the tables that the stored state loads and the
channels that the lockout records give (R187); with operation ended it is that of reset (DESIGN CHOICE, log 21). -/
def State.restOk (s : State) : Prop :=
  s.phase ≠ .running →
    s = { State.reset with
      pending := s.pending, freeDraws := s.freeDraws, phase := s.phase, straps := s.straps, nv := s.nv
      tables := s.tables, channels := s.channels } ∧
    (s.phase = .off → s.tables = Tables.default ∧ s.channels = State.reset.channels) ∧
    (s.phase ≠ .off →
      s.tables = s.nv.loaded ∧ s.channels = Vector.ofFn fun c => channelAfterReset s.nv.lockout[c])

/-! ## The Source Map (R1, R2) -/

/-- Two entries share no point, and no channel of one scanner (R2). -/
def SourceEntry.apart (a b : SourceEntry) : Prop :=
  (a.firstPoint + a.count ≤ b.firstPoint ∨ b.firstPoint + b.count ≤ a.firstPoint) ∧
  (a.scanner = b.scanner → a.firstChannel + a.count ≤ b.firstChannel ∨ b.firstChannel + b.count ≤ a.firstChannel)

/-- An entry's fields lie in their ranges (R1). -/
def SourceEntry.inRange (a : SourceEntry) : Prop :=
  1 ≤ a.count ∧ a.firstChannel + a.count ≤ (if a.scanner = 31 then 8 else 64) ∧ a.firstPoint + a.count ≤ 256 ∧
  10 ≤ a.periodMs ∧ a.periodMs ≤ 10000 ∧ 2 ≤ a.multiple ∧ a.multiple ≤ 8

/-- The non-empty entries are in range and free of overlap (R2). -/
def Tables.sourceOk (t : Tables) : Prop :=
  ∀ i j : Fin 24, ∀ a b, t.source[i] = some a → t.source[j] = some b → a.inRange ∧ (i ≠ j → a.apart b)

/-- The tables in force, those of the image, and those a STORE in flight writes. -/
def State.sourceOk (s : State) : Prop :=
  s.tables.sourceOk ∧ s.nv.image.sourceOk ∧ ∀ v b, s.management.flight = some (.store v b) → v.sourceOk

/-! ## Points (R15, R16) -/

/-- A point's dynamic state under its service. -/
def Point.ok (service : Service) (v : Point) : Prop :=
  (service = .out ∨ v.quality = .unseen → v.condition = .normal) ∧
  (v.changeStamp.isSome ↔ v.raw.isSome) ∧
  (v.alarmStamp.isSome ↔ v.condition = .abnormal ∨ v.condition = .offDelay) ∧
  (v.delay.isRunning ↔ v.condition = .onDelay ∨ v.condition = .offDelay) ∧
  (v.condition ≠ .normal → v.raw.isSome)

def State.pointsOk (s : State) : Prop := ∀ p : Fin 256, s.points[p].ok s.tables.point[p].service

/-! ## The Mode Tracker (R25, R34) -/

def State.modeOk (s : State) : Prop :=
  let m := s.mode
  (m.held.isSome ↔ m.hold.isRunning) ∧
  (∀ a, m.effective = some a → m.lastKnown = some a) ∧
  (m.effective = none → m.held = none) ∧
  (s.tables.panel.modeSource = .set → m.unitTimer = .stopped)

/-! ## Windows and the horn (R43, R58) -/

def Window.ok (v : Window) : Prop :=
  (v.state = .quiet ∨ v.state = .clearWait → v.feeders = []) ∧ (v.state = .held → v.feeders ≠ [])

/-- The windows, and a horn that is not OFF only while some horn-YES window is in ALERT. -/
def State.windowsOk (s : State) : Prop :=
  (∀ w : Fin 96, s.windows[w].ok) ∧
  (s.horn ≠ .off → ∃ w : Fin 96, s.tables.window[w].horn = true ∧ s.windows[w].state = .alert)

/-- A feeder is active and names the window (R20, R41, R98, R137). -/
def State.feeds (s : State) (f : Feeder) (w : Fin 96) : Prop :=
  match f with
  | .point p => s.feederActive p = true ∧ s.tables.point[p].window = some w
  | .channel c =>
    (s.channels[c].state = .firing ∨ s.channels[c].state = .lockout) ∧ s.tables.trip[c].window = some w
  | .health => s.health.feeder = true ∧ s.tables.panel.healthWindow = w

/-- While the part runs, a window's active feeder set holds exactly the active feeders that name it (R41). -/
def State.feedersOk (s : State) : Prop :=
  s.phase = .running → ∀ (w : Fin 96) (f : Feeder), f ∈ s.windows[w].feeders ↔ s.feeds f w

/-! ## First-out groups (R64) -/

/-- The list's shape: no point twice, at most sixteen entries, and every entry after the first either LATE at position 2
or in list order behind the non-LATE ones. -/
def FoGroup.listOk (g : FoGroup) : Prop :=
  g.entries.length ≤ 16 ∧ (g.entries.map (·.point)).Nodup ∧
  match g.entries, g.origin with
  | [], none => True
  | first :: rest, some o =>
    first.late = false ∧
    (rest = [] ∨ ∃ second others, rest = second :: others ∧
      (∀ e ∈ others, e.late = false) ∧
      (first :: if second.late then others else second :: others).Pairwise (fun x y => sortsBefore o x y = true))
  | _, _ => False

def FoGroup.ok (enable : Bool) (g : FoGroup) : Prop :=
  g.listOk ∧ (g.state = .armed ↔ g.entries = []) ∧ g.overflow ≤ Config.byteCounterMax ∧
  (g.settle.isRunning ↔ g.state = .settling) ∧ (g.marker.isSome → g.state = .frozen) ∧
  (g.state ≠ .frozen → ∀ e ∈ g.entries, e.late = false) ∧
  (g.state = .armed → g.overflow = 0) ∧ (enable = false → g.state = .armed)

def State.groupsOk (s : State) : Prop := ∀ g : Fin 8, s.groups[g].ok s.tables.group[g].enable

/-! ## Trip channels (R83 to R92) -/

/-- A channel's count, permit and state against its record and the trip permit mode (R84, R86, R88). -/
def Channel.ok (r : TripRecord) (mode : Option Mode) (ch : Channel) : Prop :=
  ch.count = voteCount r.stale ch.voters ∧ ch.permit = permitOf r mode ∧
  (ch.state = .disarmed → ch.permit = false) ∧
  (ch.state = .armWait → ch.permit = true ∧ r.required ≤ ch.count) ∧
  (ch.state = .ready → ch.permit = true ∧ ch.count < r.required) ∧
  (ch.state = .firing ↔ ch.pulse.isRunning)

/-- The channels, and lockout records that stand SET exactly for the channels in FIRING or LOCKOUT (R87, R92). -/
def State.tripsOk (s : State) : Prop :=
  ∀ c : Fin 8, s.channels[c].ok s.tables.trip[c] s.mode.permitMode ∧
    (s.phase ≠ .off → (s.nv.lockout[c] = true ↔ s.channels[c].state = .firing ∨ s.channels[c].state = .lockout))

/-- The voter table that the points' last publications give a channel (R83). -/
def State.votersFor (s : State) (c : Fin 8) : List Voter :=
  ((ascending 256).filter fun p => s.tables.point[p].service = .inn && s.tables.point[p].votes.contains c).map
    fun p => { point := p, condition := s.points[p].condition, quality := s.points[p].quality }

/-- While the part runs, a voter table holds exactly the IN points whose lists name the channel, in order (R83). -/
def State.votersOk (s : State) : Prop := s.phase = .running → ∀ c : Fin 8, s.channels[c].voters = s.votersFor c

/-! ## Health (R137) -/

/-- While the part runs, the health feeder is active exactly while an unmasked flag is SET. -/
def State.healthOk (s : State) : Prop := s.phase = .running → s.health.feeder = s.unmaskedFlag

/-! ## The link side (R143, R146, R149 to R155) -/

/-- A port by itself. -/
def Port.ok (q : Port) : Prop :=
  q.crc ≤ 65535 ∧ q.length ≤ 65535 ∧ q.stall ≤ 65535 ∧ q.overflow ≤ 65535 ∧ q.unanswered ≤ 65535 ∧
  q.fifo.length ≤ 4 ∧ q.slots.length ≤ 2 ∧ q.forwarded ≤ 4 ∧
  (q.status = .down → q.fifo = [] ∧ q.slots = [] ∧ q.forwarded = 0) ∧
  (q.status ≠ .up → q.tx = .free ∧ q.forwarded = 0) ∧ (q.justUp = true → q.status = .up ∧ q.tx ≠ .gap) ∧
  (q.tx = .transit → q.fifo ≠ []) ∧
  (q.tx = .response → q.responseWaits = true)

/-- Both ports; a free transmitter of an UP port has nothing to send (R152), and reports leave by the Station port alone. -/
def State.linkOk (s : State) : Prop :=
  s.field.ok ∧ s.station.ok ∧
  (∀ p, (s.port p).status = .up → (s.port p).tx = .free → (s.port p).fifo = [] ∧ s.ownFrame p = none) ∧
  (∀ n l, s.field.tx ≠ .report n l)

/-! ## The Report Queue (R158 to R160) -/

def State.queueOk (s : State) : Prop :=
  s.reports.length ≤ 32 ∧ s.lost ≤ 255 ∧ (0 < s.lost → s.reports ≠ []) ∧
  ∀ n l, s.station.tx = .report n l →
    1 ≤ n ∧ n ≤ 8 ∧ n ≤ s.reports.length ∧ l ≤ s.lost ∧ (l < s.lost → s.reports.length = 32)

/-! ## The console and the Management Unit (R110, R169, R177) -/

def State.selectionOk (s : State) : Prop :=
  ∀ x, s.selection = some x → x.console.toNat ≤ 15 ∧ x.age.isRunning = true

def State.managementOk (s : State) : Prop :=
  let m := s.management
  m.keyProgress ≤ 3 ∧ (m.keyTimer.isRunning ↔ m.keyProgress ≠ 0) ∧
  m.readIndex ≤ m.readTable.size ∧ 1 ≤ m.readCount ∧ m.readCount ≤ 8

/-! ## The frozen trip table (R176) -/

/-- With the frozen flag set, the channel records and vote lists in force are those of the one-time trip area; a freeze
in flight writes the values in force, and the flag is still clear. -/
def State.frozenOk (s : State) : Prop :=
  (s.nv.frozen = true → ∃ a, s.nv.tripArea = some a ∧ (s.phase ≠ .off → s.tables.tripArea = a)) ∧
  (∀ v, s.management.flight = some (.freeze v) → s.nv.frozen = false ∧ v = s.tables.tripArea)

/-! ## The image under a store (R184) -/

/-- While a STORE is in flight the validity mark reads INVALID. -/
def State.storeOk (s : State) : Prop :=
  ∀ v stage, s.management.flight = some (.store v stage) → s.nv.markValid = false

/-! ## Words of statements: frames that pass, and what a command leaves alone -/

/-- Two ports that differ in nothing but what the arbiter moves (R151, R152). -/
abbrev Port.sameButArbiter (q q' : Port) : Prop := q' = { q with tx := q'.tx, forwarded := q'.forwarded }

/-- The transit FIFO toward `p` has no place for a frame (R149). -/
abbrev State.fullToward (s : State) (p : PortId) : Prop := Config.transitPlaces ≤ (s.port p).fifo.length

/-- The port toward which a good frame `f` from `p` goes, after the offer of R149. -/
def State.joinedBy (s : State) (p : PortId) (f : Frame) : Port :=
  { s.port (otherPort p) with
    fifo := if (s.port (otherPort p)).status = .down ∨ s.fullToward (otherPort p) then (s.port (otherPort p)).fifo
      else (s.port (otherPort p)).fifo ++ [f] }

/-- The port on which a good frame arrived, after its offer (R149). -/
def State.countedAt (s : State) (p : PortId) : Port :=
  { s.port p with
    overflow := if (s.port (otherPort p)).status ≠ .down ∧ s.fullToward (otherPort p)
      then countUp 65535 (s.port p).overflow else (s.port p).overflow }

/-- What a good frame `f` from port `p` does to the ports: the offer of R149, and nothing else but the arbiters' moves. -/
abbrev State.passes (s t : State) (p : PortId) (f : Frame) : Prop :=
  (s.joinedBy p f).sameButArbiter (t.port (otherPort p)) ∧ (s.countedAt p).sameButArbiter (t.port p)

/-- Nothing changes but the two ports and the model's own draw counter. -/
abbrev State.sameButPorts (s t : State) : Prop :=
  t = { s with field := t.field, station := t.station, freeDraws := t.freeDraws }

/-- The ports differ in nothing but the arbiters' moves. -/
abbrev State.portsIdle (s t : State) : Prop :=
  s.field.sameButArbiter t.field ∧ s.station.sameButArbiter t.station

/-- The event does not come about: nothing changes but the arbiters' moves. -/
abbrev State.passesOver (s : State) (i : Instr) : Prop :=
  ∃ t, exec i s = .next t ∧ s.portsIdle t ∧ s.sameButPorts t

/-- The command is a good frame from port `p` that is not consumed, and so is offered to transit (R147, R148, R149). -/
def State.forwards (s : State) (p : PortId) (i : Instr) : Prop :=
  match i with
  | .scanState f | .scanChange f | .unitStatus f | .timeMark f => f.port = p
  | .ack c | .reset c | .silence c | .lampTestStart c | .lampTestStop c | .select c | .execute c | .cancel c => c.port = p
  | .otherFrame q f => q = p ∧ s.noBlockActs f = true
  | _ => False

/-- Nothing changes but reports, the two ports and the model's own draw counter. -/
abbrev State.sameButReports (s t : State) : Prop :=
  t = { s with
    reports := t.reports, lost := t.lost, field := t.field, station := t.station, freeDraws := t.freeDraws }

/-- As `sameButReports`, and windows and the horn. -/
abbrev State.sameButDisplay (s t : State) : Prop :=
  t = { s with
    windows := t.windows, horn := t.horn, reports := t.reports, lost := t.lost
    field := t.field, station := t.station, freeDraws := t.freeDraws }

/-- As `sameButDisplay`, and the Health Monitor. -/
abbrev State.sameButHealth (s t : State) : Prop :=
  t = { s with
    health := t.health, windows := t.windows, horn := t.horn, reports := t.reports, lost := t.lost
    field := t.field, station := t.station, freeDraws := t.freeDraws }

/-- The records that a command makes, offered in order (R158). -/
abbrev State.makes (s t : State) (l : List ReportBody) : Prop :=
  t.reports = (l.foldl State.emit s).reports ∧ t.lost = (l.foldl State.emit s).lost

/-- The command makes the record, whatever others it makes and in whatever order: it stands behind the records that waited,
or found the queue full and was counted as lost (R158). -/
abbrev State.reported (s t : State) (b : ReportBody) : Prop :=
  { body := b, time := s.clock } ∈ t.reports.drop s.reports.length ∨
  Config.reportPlaces ≤ t.reports.length ∧ (s.lost < t.lost ∨ t.lost = Config.byteCounterMax)

/-! ## Words about arrivals (R65 to R72) -/

/-- The list with `x` before the first entry that it sorts before, or at the end (R68). -/
def insertedIn (origin : Stamp) (x : Entry) (l l' : List Entry) : Prop :=
  ∃ a b, l = a ++ b ∧ l' = a ++ x :: b ∧ (∀ y ∈ a, sortsBefore origin x y = false) ∧
    ∀ y, b.head? = some y → sortsBefore origin x y = true

/-- A group after an arrival that its list does not hold, while its record has enable YES (R67 to R69, R71, R72). -/
def FoGroup.placed (settleMs : Nat) (p : Fin 256) (stamp : Stamp) (g g' : FoGroup) : Prop :=
  let x : Entry := { point := p, stamp, late := false }
  let dropped : FoGroup := { g with overflow := min 255 (g.overflow + 1) }
  (g.state = .armed →
    g' = { g with state := .settling, entries := [x], origin := some stamp, settle := .running settleMs }) ∧
  ∀ o, g.origin = some o →
    (g.state = .settling →
      (g.entries.length < 16 → ∃ l, insertedIn o x g.entries l ∧ g' = { g with entries := l }) ∧
      ∀ last, g.entries.getLast? = some last → 16 ≤ g.entries.length →
        (sortsBefore o x last = true →
          ∃ l, insertedIn o x g.entries l ∧ g' = { dropped with entries := l.dropLast }) ∧
        (sortsBefore o x last = false → g' = dropped)) ∧
    (g.state = .frozen →
      (16 ≤ g.entries.length → g' = dropped) ∧
      ∀ first rest, g.entries = first :: rest → g.entries.length < 16 →
        let lateSecond := ∃ e others, rest = e :: others ∧ e.late = true
        (sortsBefore o x first = true →
          (lateSecond → g' = dropped) ∧
          (¬lateSecond → g' = { g with entries := first :: { x with late := true } :: rest })) ∧
        (sortsBefore o x first = false →
          (∀ e others, rest = e :: others → e.late = true →
            ∃ l, insertedIn o x others l ∧ g' = { g with entries := first :: e :: l }) ∧
          (¬lateSecond → ∃ l, insertedIn o x rest l ∧ g' = { g with entries := first :: l })))

/-- A group after an arrival that names it: passed over by a disabled group and for a point that has an entry, and else
placed (R65). -/
def FoGroup.takes (r : GroupRecord) (p : Fin 256) (stamp : Stamp) (g g' : FoGroup) : Prop :=
  let held := ∃ e ∈ g.entries, e.point = p
  (r.enable = false ∨ held → g' = g) ∧ (r.enable = true → ¬held → g.placed r.settleMs p stamp g')

/-! ## Words about console commands (R103, R105) -/

/-- A destination is matched, in the words of R105. -/
def matchRule (p : Panel) (address d : Byte) : Prop :=
  d = 255 ∨ d.toNat < 64 ∧
    match p.matchMode with
    | .mask => ∀ i < 6, inSet p.matchMask i = true → inSet d i = inSet address i
    | .pair => d = address ∨ d = p.aliasAddress
    | .range => p.rangeLow.toNat ≤ d.toNat ∧ d.toNat ≤ p.rangeHigh.toNat

/-- A CONSOLE-CMD frame that is received, taken and matched (R103, R105). -/
def State.obeys (s : State) (c : ConsoleFrame) : Prop :=
  s.receives c.port = true ∧ c.console.toNat ≤ 15 ∧ c.targetKind.toNat ≤ 4 ∧
  matchRule s.tables.panel s.panelAddress c.dest

/-- The console commands and their codes (11.1). -/
def consoleCommands (c : ConsoleFrame) : List (Instr × Byte) :=
  [(.ack c, 1), (.reset c, 2), (.silence c, 3), (.lampTestStart c, 4), (.lampTestStop c, 5), (.select c, 6),
   (.execute c, 7), (.cancel c, 8)]

/-- The windows a target names (R106). -/
abbrev namesWindow (c : ConsoleFrame) (w : Fin 96) : Prop :=
  c.targetKind = 1 ∨ c.targetKind = 2 ∧ c.targetIndex.toNat = w.val

/-- An acceptable target of ACK and RESET (R106). -/
abbrev windowTarget (c : ConsoleFrame) : Prop :=
  c.targetKind = 1 ∨ c.targetKind = 2 ∧ c.targetIndex.toNat < 96

/-! ## Words about requests (R154, R155, R164, R166, R177) -/

/-- A request arrives at a port that receives and has an EMPTY slot (R154). -/
abbrev State.admits (s : State) (p : PortId) : Prop :=
  s.receives p = true ∧ (s.port p).slots.length < Config.responseSlots

/-- The part as an admitted request finds it: its own slot is RESERVED (R154). -/
abbrev State.asTaken (s : State) (r : Request) : State := s.reserveSlot r.port r.id r.src

/-- The newest slot of the request's port holds its answer, and the ports are otherwise left to the arbiters (R155). -/
abbrev State.answers (s t : State) (r : Request) (result : ResultCode) (data : List Byte) : Prop :=
  Port.sameButArbiter
    { s.port r.port with
      slots := (s.port r.port).slots ++ [.filled (s.response r.id r.src result data) false] }
    (t.port r.port) ∧
  (s.port (otherPort r.port)).sameButArbiter (t.port (otherPort r.port))

/-- The Management Unit after a request that is no RESET-KEY and was answered DONE (R177). -/
def Management.done (m : Management) : Management := { m with keyProgress := 0, keyTimer := .stopped }

/-- The Management Unit after a refused request (R166, R177). -/
def Management.refused (m : Management) (r : LastRefusal) : Management := { m.done with lastRefusal := some r }

/-- A refused request changes nothing but the last refusal record, the key progress and its slot (R164). -/
abbrev State.refusal (s t : State) (r : Request) (note : LastRefusal) : Prop :=
  t = { s with management := s.management.refused note, field := t.field, station := t.station } ∧
  s.answers t r note.result []

/-- A request answered DONE that moves nothing but management state (R163). -/
abbrev State.doneWith (s t : State) (r : Request) (m : Management) (data : List Byte) : Prop :=
  t = { s with management := m, field := t.field, station := t.station } ∧ s.answers t r .done data

/-- The pointer behind a record written (R169). -/
def Management.pointed (m : Management) (t : TableId) (i : Nat) : Management :=
  { m.done with readTable := t, readIndex := i + 1 }

/-- Every row of a consumed MGMT-REQ with a known request code, for one request, and what the last refusal record holds
of it: its code, and its table and index where it carries them (R148, R163, R166; log 15). -/
def requestCommands (r : Request) : List (Instr × Asked) :=
  let plain (i : Instr) (code : Byte) : Instr × Asked := (i, { code, table := none, index := none })
  let indexed (i : Instr) (code : Byte) : Instr × Asked := (i, { code, table := none, index := r.args.head? })
  [plain (.readNext r) 2, indexed (.serviceOut r) 4, indexed (.serviceIn r) 4, indexed (.lockBlock r) 5,
   indexed (.unlockBlock r) 6, plain (.lockAll r) 7, plain (.unlockAll r) 8, plain (.protect r) 9,
   plain (.freezeTrip r) 10, plain (.store r) 11, plain (.clearHealth r) 12, plain (.clearRefusal r) 13,
   plain (.setMode r) 14, plain (.status r) 15, plain (.resetKey r) 16]

/-- The WRITE rows of the configuration tables for one request, with their tables (R167). -/
def writeCommands (r : Request) : List (Instr × TableId) :=
  [(.writePanel r, .panel), (.writeSource r, .source), (.writePoint r, .point), (.writeWindow r, .window),
   (.writePalette r, .palette), (.writeGroup r, .group), (.writeTrip r, .trip), (.writeLampMask r, .lampMask)]

/-- What the last refusal record holds of a WRITE to a configuration table (R166). -/
def writeNote (r : Request) (t : TableId) (result : ResultCode) : LastRefusal :=
  { request := 3, table := some t.code, index := r.args.head?, result }

def Asked.note (a : Asked) (result : ResultCode) : LastRefusal :=
  { request := a.code, table := a.table, index := a.index, result }

/-- The length of a request's arguments (11.3). -/
def argBytes (code : Byte) : Nat :=
  if code = 1 then 3 else if code = 4 then 2 else if code = 9 then 3
  else if code = 5 ∨ code = 6 ∨ code = 14 ∨ code = 16 then 1 else 0

/-! ## Words about records and modes -/

def PointRecord.inRange (r : PointRecord) : Prop :=
  r.onDelay ≤ 60000 ∧ r.offDelay ≤ 60000 ∧ r.votes.length ≤ 4 ∧ r.votes.Nodup

def GroupRecord.inRange (r : GroupRecord) : Prop := 1 ≤ r.settleMs ∧ r.settleMs ≤ 250

/-- K, the permit set and the pulse length in range (R80). -/
def TripRecord.inRange (r : TripRecord) : Prop :=
  1 ≤ r.required ∧ r.required ≤ 8 ∧ r.permits.has .isolated = false ∧
  20 ≤ r.pulseMs ∧ r.pulseMs ≤ 2000 ∧ r.pulseMs % 10 = 0

/-- The settings a PANEL write examines, in range (R25, R104, R110). -/
def Panel.inRange (p : Panel) : Prop :=
  1 ≤ p.unitNumber ∧ p.unitNumber ≤ 8 ∧ p.matchMask.toNat ≤ 63 ∧ p.aliasAddress.toNat ≤ 63 ∧
  p.rangeLow.toNat ≤ p.rangeHigh.toNat ∧ p.rangeHigh.toNat ≤ 63 ∧ p.modeHoldMs ≤ 30000 ∧
  1 ≤ p.unitTimeoutS ∧ p.unitTimeoutS ≤ 60 ∧ 2 ≤ p.selectionAgeS ∧ p.selectionAgeS ≤ 30

/-- A written PANEL record with these settings; its last three bytes are not examined (R170, R191). -/
def Panel.spelledBy (p : Panel) (rec : List Byte) : Prop := rec.length = 19 ∧ rec.take 16 = p.bytes.take 16

/-- A written POINT record; vote slots beyond the count are not examined (R191). -/
def PointRecord.spelledBy (r : PointRecord) (rec : List Byte) : Prop :=
  rec.length = 14 ∧ rec.take (10 + r.votes.length) = r.bytes.take (10 + r.votes.length)

/-- A written SOURCE record; behind scanner 255 nothing is examined (11.4). -/
def sourceSpelledBy (e : Option SourceEntry) (rec : List Byte) : Prop :=
  rec.length = 7 ∧ (e = none → rec.head? = some 255) ∧ (e ≠ none → rec = sourceBytes e)

/-- Protection covers a point, in the words of R172 and R173. -/
def State.protects (s : State) (p : Fin 256) : Prop :=
  match s.tables.panel.scheme with
  | .block => ∃ b : Fin 16, b.val = p.val / 16 ∧ s.management.locks[b] = .locked
  | .range =>
    ∃ n, [0, 16, 32, 64, 128, 256][s.tables.panel.level]? = some n ∧
      match s.tables.panel.direction with
      | .top => 256 - n ≤ p.val
      | .bottom => p.val < n

/-- A tracker after a known mode is taken, from a tracker before (R27, R29, R34). -/
def ModeTracker.takes (m : ModeTracker) (new : Mode) (holdMs : Nat) (m' : ModeTracker) : Prop :=
  m'.effective = some new ∧
  (m.effective ≠ some new → m'.lastKnown = some new) ∧ (m.effective = some new → m'.lastKnown = m.lastKnown) ∧
  (m.effective = none ∨ m.effective = some new → m'.held = m.held ∧ m'.hold = m.hold) ∧
  ∀ a, m.effective = some a → a ≠ new →
    (0 < holdMs → m'.held = some a ∧ m'.hold = .running holdMs) ∧ (holdMs = 0 → m'.held = none ∧ m'.hold = .stopped)

/-- What a change of mode may reach: the tracker, the points' windows and groups, and the trip channels (R33, R34). -/
abbrev State.sameButMode (s t : State) : Prop :=
  t = { s with
    mode := t.mode, windows := t.windows, horn := t.horn, groups := t.groups, channels := t.channels, coils := t.coils
    nv := { s.nv with lockout := t.nv.lockout }, reports := t.reports, lost := t.lost
    field := t.field, station := t.station, freeDraws := t.freeDraws }

/-- What the end of the unit-status timer may reach: as for a mode, and the Health Monitor (R28). -/
abbrev State.sameButModeAndHealth (s t : State) : Prop := { s with health := t.health }.sameButMode t

/-- What a point may reach: its windows and groups, and the trip channels (R20 to R22). -/
abbrev State.sameButPoints (s t : State) : Prop :=
  t = { s with
    points := t.points, windows := t.windows, horn := t.horn, groups := t.groups, channels := t.channels
    coils := t.coils, nv := { s.nv with lockout := t.nv.lockout }, reports := t.reports, lost := t.lost
    field := t.field, station := t.station, freeDraws := t.freeDraws }

/-- What a scan frame may reach: the tracking list, the entries, and what its points reach (R5 to R11). -/
abbrev State.sameButScan (s t : State) : Prop :=
  { s with scanners := t.scanners, entries := t.entries }.sameButPoints t

/-- A frame with sequence number `q`, no duplicate, is a gap on scanner `k` (R6). -/
def State.gapAt (s : State) (k : Fin 31) (q : Byte) : Bool :=
  match s.scanners[k].last with
  | none => false
  | some l => q ≠ l + 1

/-- A point lies in the range of an entry, if the entry is not empty (R1). -/
def holdsPoint (e : Option SourceEntry) (p : Fin 256) : Bool :=
  match e with
  | none => false
  | some e => e.firstPoint ≤ p.val && p.val < e.firstPoint + e.count

/-- A SELECT may name the target (R96, R106). -/
def State.selectable (s : State) : Target → Prop
  | .trip c => s.tables.trip[c].enable = true ∨ s.channels[c].state = .lockout
  | .group g => s.tables.group[g].enable = true

/-- The frame names the target (R106). -/
abbrev namesTarget (c : ConsoleFrame) (x : Target) : Prop := c.targetKind = x.kind ∧ c.targetIndex = x.index

/-- The bytes of a SCAN-STATE body (11.2). -/
def ScanStateBody.bytes (b : ScanStateBody) : List Byte :=
  [byteOf b.scanner, b.seq] ++ bytes32 b.stamp ++ [byteOf b.count] ++ b.states

def ScanStateBody.inRange (b : ScanStateBody) : Prop :=
  b.scanner ≤ 31 ∧ 1 ≤ b.count ∧ b.count ≤ 64 ∧ b.states.length = (b.count + 7) / 8

def ChangeRecord.bytes (r : ChangeRecord) : List Byte := [r.channel, r.state] ++ bytes16 r.offset

/-- The bytes of a SCAN-CHANGE body (11.2). -/
def ScanChangeBody.bytes (b : ScanChangeBody) : List Byte :=
  [byteOf b.scanner, b.seq] ++ bytes32 b.base ++ [byteOf b.records.length] ++ b.records.flatMap ChangeRecord.bytes

def ScanChangeBody.inRange (b : ScanChangeBody) : Prop :=
  b.scanner ≤ 31 ∧ 1 ≤ b.records.length ∧ b.records.length ≤ 16 ∧ ∀ r ∈ b.records, r.offset < 65536

/-- The raw value that a SCAN-CHANGE leaves a channel with: that of its last valid record for the channel (R11). -/
def ScanChangeBody.lastRaw (b : ScanChangeBody) (c : Nat) : Option Raw :=
  (b.records.filterMap fun r => if r.channel.toNat = c then r.raw else none).getLast?

end Sys2Proof.Machine
end

