-- ==== Sys2Proof/Certificates/Slice0/Obligations.lean ====
section
/-! DEFINITION. The statements about the part, from the rules of spec/. -/

open Sys2Proof Sys2Proof.Machine

/-! ## The step and the queue -/

/-- A step takes the command at the front of the queue and runs it on the part with the queue's rest. On an empty queue it is
one microsecond of a running part's own time base, which is the model's choice (log 4): the Station Clock counts up, the
instant of a STORE's acceptance or of a port's going UP is over, every thousandth microsecond counts the flash clock up and
the running timers down, and nothing else changes (R52, R67, R156, R161, R189). -/
def Obligations.StepRunsFrontCommand : Prop :=
  (∀ (c : Instr) (rest : List Instr) (s : State),
    step { s with pending := c :: rest } = exec c { s with pending := rest }) ∧
  (∀ s : State, s.pending = [] →
    let flight := s.management.flight.map fun f => match f with
      | .store v .accepted => .store v .writing
      | f => f
    let field := { s.field with justUp := false }
    let station := { s.station with justUp := false }
    (s.phase ≠ .running → step s = .next s) ∧
    (s.phase = .running → s.msPhase < 999 → step s = .next { s with
      clock := s.clock + 1, msPhase := s.msPhase + 1, field, station, management := { s.management with flight := flight } }) ∧
    (s.phase = .running → 999 ≤ s.msPhase → step s = .next { s with
      clock := s.clock + 1, msPhase := 0, flash := (s.flash + 1) % 11520, field, station
      points := s.points.map fun v => { v with delay := v.delay.tick }
      entries := s.entries.map fun v => { v with freshness := v.freshness.tick }
      mode := { s.mode with hold := s.mode.hold.tick, unitTimer := s.mode.unitTimer.tick }
      lampTest := s.lampTest.tick
      groups := s.groups.map fun v => { v with settle := v.settle.tick }
      channels := s.channels.map fun v => { v with pulse := v.pulse.tick }
      selection := s.selection.map fun v => { v with age := v.age.tick }
      management := { s.management with flight := flight, keyTimer := s.management.keyTimer.tick } })) ∧
  (∀ n, Timer.tick (.running n) = .running (n - 1)) ∧ Timer.tick .stopped = .stopped ∧ Timer.tick .expired = .expired

/-- Every command of the table answers a next state and leaves the queue to the step. -/
def Obligations.EveryCommandAnswers : Prop :=
  ∀ (c : Instr) (s : State), ∃ t, exec c s = .next t ∧ t.pending = s.pending

/-! ## What every step keeps -/

/-- The state right after reset meets every invariant below. -/
def Obligations.ResetMeetsInvariants : Prop :=
  State.reset.restOk ∧ State.reset.sourceOk ∧ State.reset.pointsOk ∧ State.reset.modeOk ∧ State.reset.selectionOk ∧
  State.reset.managementOk ∧ State.reset.windowsOk ∧ State.reset.feedersOk ∧ State.reset.groupsOk ∧
  State.reset.tripsOk ∧ State.reset.votersOk ∧ State.reset.healthOk ∧ State.reset.linkOk ∧ State.reset.queueOk ∧
  State.reset.frozenOk ∧ State.reset.storeOk

/-- Every step keeps the volatile state of a part that does not run at its reset values: in a reset with the tables that the
stored state loads and the channels that the lockout records give (R187; the values no rule gives are the model's, logs 3,
17 and 32), and with operation ended with the default tables, where R186 says only that volatile state is lost and the values
are the model's choice (DESIGN CHOICE, log 21). -/
def Obligations.RestKept : Prop := ∀ s t : State, s.restOk → step s = .next t → t.restOk

/-- Every step keeps the Source Map in range and free of overlap, in force, in the image and in a store, a frozen trip table
equal to the one-time trip area, and the validity mark INVALID while a STORE is in flight (R1, R2, R176, R184, R187). -/
def Obligations.ConfigurationKept : Prop :=
  ∀ s t : State, s.sourceOk ∧ s.frozenOk ∧ s.storeOk → step s = .next t → t.sourceOk ∧ t.frozenOk ∧ t.storeOk

/-- Every step keeps each point's condition, delay timer and stamps in step with each other (R15, R16). -/
def Obligations.PointsKept : Prop := ∀ s t : State, s.pointsOk → step s = .next t → t.pointsOk

/-- Every step keeps the Mode Tracker, the Selection slot and the Management Unit well formed (R25, R34, R110, R169,
R177). -/
def Obligations.TrackersKept : Prop :=
  ∀ s t : State, s.modeOk ∧ s.selectionOk ∧ s.managementOk → step s = .next t →
    t.modeOk ∧ t.selectionOk ∧ t.managementOk

/-- Every step keeps HELD windows fed, QUIET and CLEAR-WAIT windows unfed, and the horn OFF unless some horn-YES window
stands in ALERT (R43, R45, R46, R57). -/
def Obligations.WindowsKept : Prop := ∀ s t : State, s.windowsOk → step s = .next t → t.windowsOk

/-- Every step keeps each window's active feeder set equal to the active feeders that name it, and the health feeder active
exactly while an unmasked flag is SET (R20, R41, R42, R98, R137). -/
def Obligations.FeedersKept : Prop :=
  ∀ s t : State, s.restOk → s.feedersOk ∧ s.healthOk → step s = .next t → t.feedersOk ∧ t.healthOk

/-- Every step keeps each first-out group's list in its shape: sixteen entries at most, no point twice, list order, and
a LATE entry at position 2 alone (R64 to R74). -/
def Obligations.GroupsKept : Prop := ∀ s t : State, s.groupsOk → step s = .next t → t.groupsOk

/-- Every step keeps each channel's count, permit and state in step, and its lockout record SET exactly in FIRING and
LOCKOUT (R84, R86 to R92). -/
def Obligations.TripsKept : Prop := ∀ s t : State, s.tripsOk → step s = .next t → t.tripsOk

/-- Every step keeps each voter table equal to the vote states of the IN points that name its channel (R22, R83). -/
def Obligations.VotersKept : Prop :=
  ∀ s t : State, s.restOk → s.votersOk → step s = .next t → t.votersOk

/-- Every step keeps the ports within their bounds with no free transmitter of an UP port that has something to send, and
the Report Queue, the lost count and a PANEL-REPORT being sent consistent (R143, R146, R149 to R155, R158 to R160; the
arbiter's moment is log 7). -/
def Obligations.LinkKept : Prop :=
  ∀ s t : State, s.restOk → s.linkOk ∧ s.queueOk → step s = .next t → t.linkOk ∧ t.queueOk

/-! ## Frames on the line -/

/-- The symbols of a whole frame after an idle symbol, and an idle symbol behind it, put exactly the command that the
Frame Classifier gives at the end of the queue (R142 to R147). That a receiver puts its command there is the model's reading
(DEDUCED, log 18). -/
def Obligations.LineFrameBecomesCommand : Prop :=
  ∀ (s : State) (p : PortId) (f : Frame), s.receives p = true → f.body.length ≤ 240 →
    (s.port p).rx.reception = .afterIdle →
    (((frameOnLine f).foldl (fun s b => s.feedSymbol p (.data b)) s).feedSymbol p .idle).pending =
      s.pending ++ [classifyFrame s.panelAddress p f]

/-! ## Points and scan frames -/

/-- The condition machine moves an IN point that is not UNSEEN as the table of R16 gives, and no other. -/
def Obligations.ConditionMachine : Prop :=
  ∀ (r : PointRecord) (v : Point),
    (r.service = .out ∨ v.quality = .unseen → takeRawChange r v = v) ∧
    (r.service = .inn → v.quality ≠ .unseen →
      (v.condition = .normal → alarmRaw r v.raw = true → r.onDelay = 0 →
        takeRawChange r v = { v with condition := .abnormal, alarmStamp := v.changeStamp }) ∧
      (v.condition = .normal → alarmRaw r v.raw = true → 0 < r.onDelay →
        takeRawChange r v = { v with condition := .onDelay, delay := .running r.onDelay }) ∧
      (v.condition = .normal → alarmRaw r v.raw = false → takeRawChange r v = v) ∧
      (v.condition = .onDelay → alarmRaw r v.raw = false →
        takeRawChange r v = { v with condition := .normal, delay := .stopped }) ∧
      (v.condition = .abnormal → alarmRaw r v.raw = false → r.offDelay = 0 →
        takeRawChange r v = { v with condition := .normal, alarmStamp := none }) ∧
      (v.condition = .abnormal → alarmRaw r v.raw = false → 0 < r.offDelay →
        takeRawChange r v = { v with condition := .offDelay, delay := .running r.offDelay }) ∧
      (v.condition = .offDelay → alarmRaw r v.raw = true →
        takeRawChange r v = { v with condition := .abnormal, delay := .stopped })) ∧
    (v.condition = .onDelay →
      takeDelayExpiry v = { v with condition := .abnormal, delay := .stopped, alarmStamp := v.changeStamp }) ∧
    (v.condition = .offDelay →
      takeDelayExpiry v = { v with condition := .normal, delay := .stopped, alarmStamp := none })

/-- An accepted SCAN-STATE: the tracking list, the entries it covers, each mapped point, and the frame's passage
(R6, R7, R9, R10, R149). -/
def Obligations.ScanStateAccepted : Prop :=
  ∀ (s : State) (f : LinkFrame) (b : ScanStateBody) (k : Fin 31),
    s.receives f.port = true → f.body = b.bytes → b.inRange → b.scanner = k.val → s.tables.sourceOk →
    s.tables.namesScanner k.val = true → s.scanners[k].last ≠ some b.seq →
    ∃ t, exec (.scanState f) s = .next t ∧ s.passes t f.port ⟨1, f.dest, f.src, f.body⟩ ∧ s.sameButScan t ∧
      (∀ e : Fin 24, t.entries[e] =
        if s.tables.covers e k.val b.count then { freshness := .running (s.tables.freshnessMs e), gapPending := false }
        else if s.gapAt k b.seq && s.tables.entryNames e k.val then { s.entries[e] with gapPending := true }
        else s.entries[e]) ∧
      t.scanners[k].last = some b.seq ∧ (∀ j, j ≠ k → t.scanners[j] = s.scanners[j]) ∧
      (let now := if s.scanners[k].last = none then ScannerStatus.tracking
         else if s.gapAt k b.seq then .gap else s.scanners[k].status
       t.scanners[k].status =
         if now = .gap ∧ ∀ e : Fin 24, s.tables.entryNames e k.val = true → t.entries[e].gapPending = false
         then .tracking else now) ∧
      (∀ (c : Nat) (e : Fin 24) (p : Fin 256), s.tables.mapChannel k.val c = some (e, p) →
        let v := s.points[p]
        let covered := s.tables.covers e k.val b.count
        let changed : Bool := b.state c ≠ none ∧ v.raw ≠ b.state c
        let w := { v with
          raw := if changed then b.state c else v.raw
          changeStamp := if changed then some b.stamp else v.changeStamp
          quality := if covered then .good else if s.gapAt k b.seq then v.quality.gapped else v.quality }
        t.points[p] = if changed || (covered && v.quality = .unseen) then takeRawChange s.tables.point[p] w else w) ∧
      ∀ p : Fin 256, (∀ c e, s.tables.mapChannel k.val c ≠ some (e, p)) → t.points[p] = s.points[p]

/-- An accepted SCAN-CHANGE: the tracking list, the gap, and each mapped point's records in frame order (R6, R7, R11,
R149). -/
def Obligations.ScanChangeAccepted : Prop :=
  ∀ (s : State) (f : LinkFrame) (b : ScanChangeBody) (k : Fin 31),
    s.receives f.port = true → f.body = b.bytes → b.inRange → b.scanner = k.val → s.tables.sourceOk →
    s.tables.namesScanner k.val = true → s.scanners[k].last ≠ some b.seq →
    ∃ t, exec (.scanChange f) s = .next t ∧ s.passes t f.port ⟨2, f.dest, f.src, f.body⟩ ∧ s.sameButScan t ∧
      (∀ e : Fin 24, t.entries[e] =
        if s.gapAt k b.seq && s.tables.entryNames e k.val then { s.entries[e] with gapPending := true }
        else s.entries[e]) ∧
      t.scanners[k] = { last := some b.seq
                        status := if s.scanners[k].last = none then .tracking
                          else if s.gapAt k b.seq then .gap else s.scanners[k].status } ∧
      (∀ j, j ≠ k → t.scanners[j] = s.scanners[j]) ∧
      (∀ (c : Nat) (e : Fin 24) (p : Fin 256), s.tables.mapChannel k.val c = some (e, p) →
        t.points[p] =
          (b.records.filter fun r => r.channel.toNat = c).foldl
            (fun v r => match r.raw with
              | none => v
              | some x =>
                if v.raw = some x then v
                else takeRawChange s.tables.point[p] { v with raw := some x, changeStamp := some (r.stamp b.base) })
            { s.points[p] with
              quality := if s.gapAt k b.seq then s.points[p].quality.gapped else s.points[p].quality }) ∧
      ∀ p : Fin 256, (∀ c e, s.tables.mapChannel k.val c ≠ some (e, p)) → t.points[p] = s.points[p]

/-- A scan frame with a body out of range, of S31, of a scanner that no entry names, or with the number last accepted is
not acted on; it passes as every frame does (R5, R6, R190). -/
def Obligations.ScanFramesPassedOver : Prop :=
  ∀ (s : State) (f : LinkFrame), s.receives f.port = true →
    let held (n : Nat) (q : Byte) : Prop :=
      n = 31 ∨ s.tables.namesScanner n = false ∨ ∃ k : Fin 31, k.val = n ∧ s.scanners[k].last = some q
    ((∀ b : ScanStateBody, b.inRange → f.body = b.bytes → held b.scanner b.seq) →
      ∃ t, exec (.scanState f) s = .next t ∧ s.passes t f.port ⟨1, f.dest, f.src, f.body⟩ ∧ s.sameButPorts t) ∧
    ((∀ b : ScanChangeBody, b.inRange → f.body = b.bytes → held b.scanner b.seq) →
      ∃ t, exec (.scanChange f) s = .next t ∧ s.passes t f.port ⟨2, f.dest, f.src, f.body⟩ ∧ s.sameButPorts t)

/-- A debounced reading that differs from the last one, or is the first, reaches the point its channel maps to; one that
repeats the last changes nothing (R12). -/
def Obligations.DebouncedReadingTaken : Prop :=
  ∀ (s : State) (k : Fin 8) (x : Raw), s.phase = .running →
    (s.inputs[k].reading = some x →
      ∃ t, exec (.debouncedReading k x) s = .next t ∧ s.portsIdle t ∧ s.sameButPorts t) ∧
    (s.inputs[k].reading ≠ some x →
      ∃ t, exec (.debouncedReading k x) s = .next t ∧ s.portsIdle t ∧
        { s with inputs := t.inputs }.sameButPoints t ∧ t.inputs = upd s.inputs k (fun v => { v with reading := some x }) ∧
        (∀ (e : Fin 24) (p : Fin 256), s.tables.mapChannel 31 k.val = some (e, p) →
          t.points = upd s.points p fun v => takeRawChange s.tables.point[p]
            { v with raw := some x, changeStamp := some s.clock, quality := .good }) ∧
        (s.tables.mapChannel 31 k.val = none → t.points = s.points))

/-- A delay timer that has run out moves its point as R16 gives; an IN point that is not inhibited and reaches ABNORMAL makes
a new activation to its window and an arrival at its group, whose list, origin, settle timer and overflow count take it as
`FoGroup.takes` says, in the words of R65 to R72; no other group changes. An expiry whose timer has not run out does not come
about (R16, R17, R20, R21, R44, R57, R65 to R72, R77). That the WINDOW record comes before the point's GROUP and TRIP
records is the model's choice (DESIGN CHOICE, log 11). -/
def Obligations.DelayTimerExpires : Prop :=
  ∀ (s : State) (p : Fin 256), s.phase = .running →
    (s.points[p].delay ≠ .running 0 → s.passesOver (.delayTimerExpiry p)) ∧
    (s.points[p].delay = .running 0 →
    let activates := s.points[p].condition = .onDelay ∧ s.tables.point[p].service = .inn ∧ s.inhibited p = false
    ∃ t, exec (.delayTimerExpiry p) s = .next t ∧ s.portsIdle t ∧ s.sameButPoints t ∧
      t.points = upd s.points p takeDelayExpiry ∧
      (s.points[p].condition = .onDelay → t.points[p].condition = .abnormal ∧ t.points[p].delay = .stopped ∧
        t.points[p].alarmStamp = s.points[p].changeStamp) ∧
      (s.points[p].condition = .offDelay → t.points[p].condition = .normal ∧ t.points[p].delay = .stopped ∧
        t.points[p].alarmStamp = none) ∧
      (∀ w : Fin 96, activates → s.tables.point[p].window = some w →
        t.windows[w].state = .alert ∧ Feeder.point p ∈ t.windows[w].feeders ∧
        (s.tables.window[w].horn = true → t.horn = .sounding) ∧
        (s.emit (.window w .alert)).reports <+: t.reports) ∧
      (∀ (g : Fin 8) (stamp : Stamp), activates → s.tables.point[p].group = some g →
        s.points[p].changeStamp = some stamp →
        FoGroup.takes s.tables.group[g] p stamp s.groups[g] t.groups[g] ∧
        (∀ h, h ≠ g → t.groups[h] = s.groups[h]) ∧
        (s.groups[g].state = .armed → t.groups[g].state = .settling → s.reported t (.group g .settling))) ∧
      (¬activates ∨ s.tables.point[p].group = none → t.groups = s.groups))

/-- A freshness timer that has run out stands expired, its entry's points go STALE and nothing else of them changes, and
SCANNER-STALE is SET; one that a covering frame has restarted does not expire (R13). -/
def Obligations.FreshnessTimerExpires : Prop :=
  ∀ (s : State) (e : Fin 24), s.phase = .running →
    (s.entries[e].freshness ≠ .running 0 → s.passesOver (.freshnessTimerExpiry e)) ∧
    (s.entries[e].freshness = .running 0 → ∃ t, exec (.freshnessTimerExpiry e) s = .next t ∧ s.portsIdle t ∧
      { s with entries := t.entries, health := t.health }.sameButPoints t ∧
      t.entries = upd s.entries e (fun v => { v with freshness := .expired }) ∧
      (∀ p : Fin 256, t.points[p] =
        if holdsPoint s.tables.source[e] p then { s.points[p] with quality := .stale } else s.points[p]) ∧
      t.health.flags = s.health.flags ||| BitVec.twoPow 11 6)

/-! ## The mode -/

/-- UNIT-STATUS is acted on under SNOOP for the stored unit number and a valid code, and not otherwise (R26, R27, R29,
R37). That the MODE record comes before the TRIP, WINDOW and GROUP records of the change is the model's choice (DESIGN
CHOICE, log 12). -/
def Obligations.UnitStatusTaken : Prop :=
  ∀ (s : State) (f : LinkFrame), s.receives f.port = true →
    (∀ m : Mode, s.tables.panel.modeSource = .snoop →
      (∃ u : Byte, f.body = [u, byteOf m.code] ∧ u.toNat = s.tables.panel.unitNumber) →
      ∃ t, exec (.unitStatus f) s = .next t ∧ s.passes t f.port ⟨3, f.dest, f.src, f.body⟩ ∧ s.sameButMode t ∧
        s.mode.takes m s.tables.panel.modeHoldMs t.mode ∧
        t.mode.unitTimer = .running (s.tables.panel.unitTimeoutS * 1000) ∧
        (s.mode.effective = some m → { s with mode := t.mode }.sameButPorts t) ∧
        (s.mode.effective ≠ some m → (s.emit (.mode (some m))).reports <+: t.reports)) ∧
    ((s.tables.panel.modeSource = .set ∨
        ∀ (u : Byte) (m : Mode), f.body = [u, byteOf m.code] → u.toNat ≠ s.tables.panel.unitNumber) →
      ∃ t, exec (.unitStatus f) s = .next t ∧ s.passes t f.port ⟨3, f.dest, f.src, f.body⟩ ∧ s.sameButPorts t)

/-- SET-MODE: a value that is no mode is BAD-VALUE, under SNOOP it is REFUSED-PROTECTED, and under SET the mode is taken
(R29, R31, R37). That the MODE record comes before the change's other records is the model's choice (DESIGN CHOICE,
log 12). -/
def Obligations.SetModeTaken : Prop :=
  ∀ (s : State) (r : Request) (b : Byte), s.admits r.port → r.args = [b] →
    let note := fun result => ({ request := 14, table := none, index := none, result } : LastRefusal)
    ((∀ m : Mode, b ≠ byteOf m.code) → ∃ t, exec (.setMode r) s = .next t ∧ s.refusal t r (note .badValue)) ∧
    ∀ m : Mode, b = byteOf m.code →
      (s.tables.panel.modeSource = .snoop →
        ∃ t, exec (.setMode r) s = .next t ∧ s.refusal t r (note .refusedProtected)) ∧
      (s.tables.panel.modeSource = .set →
        ∃ t, exec (.setMode r) s = .next t ∧ s.answers t r .done [] ∧
          { s with management := s.management.done }.sameButMode t ∧
          s.mode.takes m s.tables.panel.modeHoldMs t.mode ∧ t.mode.unitTimer = s.mode.unitTimer ∧
          (s.mode.effective = some m →
            t = { s with mode := t.mode, management := s.management.done, field := t.field, station := t.station }) ∧
          (s.mode.effective ≠ some m → (s.emit (.mode (some m))).reports <+: t.reports))

/-- The hold timer's end makes the held mode absent; the unit-status timer's end makes the effective mode UNKNOWN, keeps
the last known mode and sets MODE-UNKNOWN (R28, R29, R37). A timer that was restarted does not expire. That the MODE record
comes before every other record of the timeout is the model's choice (DESIGN CHOICE, log 12; R28 gives no order). -/
def Obligations.ModeTimersExpire : Prop :=
  ∀ s : State, s.phase = .running →
    (s.mode.hold ≠ .running 0 → s.passesOver .holdTimerExpiry) ∧
    (s.mode.unitTimer ≠ .running 0 → s.passesOver .unitStatusTimeout) ∧
    (s.mode.hold = .running 0 → ∃ t, exec .holdTimerExpiry s = .next t ∧ s.portsIdle t ∧ s.sameButMode t ∧
      t.mode = { s.mode with held := none, hold := .stopped }) ∧
    (s.mode.unitTimer = .running 0 → ∃ t, exec .unitStatusTimeout s = .next t ∧ s.portsIdle t ∧
      s.sameButModeAndHealth t ∧
      t.mode.effective = none ∧ t.mode.lastKnown = s.mode.lastKnown ∧ t.mode.unitTimer = .expired ∧
      (s.mode.effective ≠ none → t.mode.held = none ∧ t.mode.hold = .stopped ∧
        (s.emit (.mode none)).reports <+: t.reports) ∧
      (s.mode.effective = none → t.mode.held = s.mode.held ∧ t.mode.hold = s.mode.hold) ∧
      t.health.flags = s.health.flags ||| BitVec.twoPow 11 7)

/-! ## Other frames -/

/-- A TIME-MARK of four body bytes sets the Station Clock, and one of any other length changes nothing; a good frame that no
block acts on changes nothing; all are offered to transit (R147, R149, R156, R190). -/
def Obligations.TimeMarksAndOtherFrames : Prop :=
  (∀ (s : State) (f : LinkFrame), s.receives f.port = true →
       ∃ t, exec (.timeMark f) s = .next t ∧ s.passes t f.port ⟨4, f.dest, f.src, f.body⟩ ∧
         (∀ x : Stamp, f.body = bytes32 x → { s with clock := x }.sameButPorts t) ∧
         (f.body.length ≠ 4 → s.sameButPorts t)) ∧
  ∀ (s : State) (p : PortId) (f : Frame), s.receives p = true → s.noBlockActs f = true →
    ∃ t, exec (.otherFrame p f) s = .next t ∧ s.passes t p f ∧ s.sameButPorts t

/-! ## First-out groups -/

/-- For stamps within 2^30 µs of the origin, list order is the precedence of station time, ties going to the lower point
number; and any two entries of distinct points are ordered one way (R66). -/
def Obligations.ListOrderIsPrecedence : Prop :=
  ∀ (o : Stamp) (x y : Entry),
    (((x.stamp - o).toNat < 2 ^ 30 ∨ (o - x.stamp).toNat ≤ 2 ^ 30) →
      ((y.stamp - o).toNat < 2 ^ 30 ∨ (o - y.stamp).toNat ≤ 2 ^ 30) →
      (sortsBefore o x y = true ↔
        precedes x.stamp y.stamp = true ∨ x.stamp = y.stamp ∧ x.point.val < y.point.val)) ∧
    (x.point ≠ y.point → (sortsBefore o x y = true ↔ sortsBefore o y x = false))

/-- The settle timer's end freezes its group, whose first entry's window takes the marker; the pulse timer's end takes its
FIRING channel to LOCKOUT and gives its coil a fresh run; a timer that has not run out does not expire (R51, R70, R76, R77,
R91, R99, R132). -/
def Obligations.SettleAndPulseTimersEnd : Prop :=
  (∀ (s : State) (g : Fin 8), s.phase = .running →
     (s.groups[g].settle ≠ .running 0 → s.passesOver (.settleTimerExpiry g)) ∧
     (s.groups[g].settle = .running 0 → ∃ t, exec (.settleTimerExpiry g) s = .next t ∧ s.portsIdle t ∧
         s.makes t [.group g .frozen] ∧
         t = { s with
           groups := t.groups, windows := t.windows, reports := t.reports, lost := t.lost
           field := t.field, station := t.station } ∧
         (let marker := s.groups[g].entries.head?.bind fun e => s.tables.point[e.point].window
          t.groups = upd s.groups g (fun v => { v with state := .frozen, settle := .stopped, marker }) ∧
          ∀ w : Fin 96, t.windows[w] =
            if marker = some w then { s.windows[w] with markers := s.windows[w].markers ||| BitVec.twoPow 8 g.val }
            else s.windows[w]))) ∧
  ∀ (s : State) (c : Fin 8), s.phase = .running →
    (s.channels[c].state ≠ .firing ∨ s.channels[c].pulse ≠ .running 0 → s.passesOver (.pulseTimerExpiry c)) ∧
    (s.channels[c].state = .firing → s.channels[c].pulse = .running 0 → ∃ t, exec (.pulseTimerExpiry c) s = .next t ∧
      s.portsIdle t ∧ s.makes t [.trip c .lockout] ∧
      t = { s with
        channels := upd s.channels c (fun v => { v with state := .lockout, pulse := .stopped })
        coils := upd s.coils c (fun v => { v with run := none })
        reports := t.reports, lost := t.lost, field := t.field, station := t.station } ∧
      t.tripOutput c = false)

/-! ## Console commands -/

/-- A CONSOLE-CMD frame whose console id or target kind is out of range, or whose destination is not matched, passes and
changes nothing (R103, R105). -/
def Obligations.UnmatchedConsoleFramesPass : Prop :=
  ∀ (s : State) (c : ConsoleFrame) (i : Instr) (code : Byte), (i, code) ∈ consoleCommands c →
    s.receives c.port = true →
    ¬(c.console.toNat ≤ 15 ∧ c.targetKind.toNat ≤ 4 ∧ matchRule s.tables.panel s.panelAddress c.dest) →
    ∃ t, exec i s = .next t ∧ s.passes t c.port (consoleFrame c code) ∧ s.sameButPorts t

/-- A matched ACK takes each named window in ALERT to HELD, CLEAR-WAIT or QUIET, with its record, and the horn goes OFF when
no horn-YES window is left in ALERT; a matched RESET takes each named window in CLEAR-WAIT to QUIET (R46, R47, R48, R50,
R57). -/
def Obligations.AckAndResetTakeNamedWindows : Prop :=
  (∀ (s : State) (c : ConsoleFrame), s.obeys c → windowTarget c →
       ∃ t, exec (.ack c) s = .next t ∧ s.passes t c.port (consoleFrame c 1) ∧ s.sameButDisplay t ∧
         (∀ w : Fin 96, t.windows[w] = { s.windows[w] with
           state :=
             if namesWindow c w ∧ s.windows[w].state = .alert then
               if s.windows[w].feeders ≠ [] then .held
               else if s.tables.window[w].sequence = .manual then .clearWait else .quiet
             else s.windows[w].state }) ∧
         t.horn = (if (∃ w : Fin 96, namesWindow c w ∧ s.windows[w].state = .alert) ∧ t.hornAlert = false then .off else s.horn) ∧
         s.makes t (((ascending 96).filter fun w => namesWindow c w ∧ s.windows[w].state = .alert).map fun w =>
           .window w t.windows[w].state)) ∧
  ∀ (s : State) (c : ConsoleFrame), s.obeys c → windowTarget c →
    ∃ t, exec (.reset c) s = .next t ∧ s.passes t c.port (consoleFrame c 2) ∧ s.sameButDisplay t ∧ t.horn = s.horn ∧
      (∀ w : Fin 96, t.windows[w] = { s.windows[w] with
        state := if namesWindow c w ∧ s.windows[w].state = .clearWait then .quiet else s.windows[w].state }) ∧
      s.makes t (((ascending 96).filter fun w => namesWindow c w ∧ s.windows[w].state = .clearWait).map fun w =>
        .window w .quiet)

/-- A matched SILENCE, LAMP-TEST START or STOP, and the end of a lamp test, change the horn state or the lamp test alone; a
lamp test that was restarted does not end (R54, R55, R57, R108, R109). In every state the outputs follow the state: the
horn output but under ISOLATED (R35, R58), the trip outputs (R87), each window's displayed pattern and colour (R52 to R54), and
the drive levels of its lamp, all 0 in a dark part and for a recorded short (R123, R124, R128), and every output off in a
part that does not run (R186, R187). -/
def Obligations.HornAndLampTestCommands : Prop :=
  (∀ s : State,
    (∀ c : ConsoleFrame, s.obeys c →
      (∃ t, exec (.silence c) s = .next t ∧ s.passes t c.port (consoleFrame c 3) ∧
        { s with horn := if s.horn = Horn.sounding then Horn.silenced else s.horn }.sameButPorts t) ∧
      (∃ t, exec (.lampTestStart c) s = .next t ∧ s.passes t c.port (consoleFrame c 4) ∧
        { s with lampTest := .running 60000 }.sameButPorts t) ∧
      (∃ t, exec (.lampTestStop c) s = .next t ∧ s.passes t c.port (consoleFrame c 5) ∧
        { s with lampTest := .stopped }.sameButPorts t)) ∧
    (s.phase = .running → s.lampTest ≠ .running 0 → s.passesOver .lampTestExpiry) ∧
    (s.phase = .running → s.lampTest = .running 0 → ∃ t, exec .lampTestExpiry s = .next t ∧ s.portsIdle t ∧
      { s with lampTest := .stopped }.sameButPorts t)) ∧
  ∀ s : State,
    (s.hornOutput = true ↔ s.phase = .running ∧ s.horn = .sounding ∧ s.mode.effective ≠ some .isolated) ∧
    (∀ c : Fin 8, s.tripOutput c = true ↔ s.phase = .running ∧ s.channels[c].state = .firing) ∧
    ∀ w : Fin 96,
      let v := s.windows[w]
      let r := s.tables.window[w]
      (s.lampTest.isRunning = true → s.pattern w = .steady ∧ s.colourOf w = s.tables.panel.testColour) ∧
      (s.lampTest.isRunning = false →
        (v.state = .quiet → s.pattern w = .dark) ∧
        (v.state = .alert → s.pattern w = if v.markers = 0 then .fastFlash else .firstOut) ∧
        (v.state = .held → s.pattern w = .steady) ∧
        (v.state = .clearWait → s.pattern w = .slowFlash) ∧
        (v.state ≠ .quiet → s.colourOf w = if v.markers = 0 then r.normalColour else r.firstOutColour)) ∧
      let lit : Prop := match s.pattern w with
        | .dark => False
        | .steady => True
        | .fastFlash => s.flash % 320 < 160
        | .slowFlash => s.flash % 1280 < 640
        | .firstOut => s.flash % 720 < 80 ∨ 160 ≤ s.flash % 720 ∧ s.flash % 720 ≤ 239
      let driven := s.phase = .running ∧ lit ∧ s.lamps[w].fault ≠ some .short
      let level (b : Byte) : Nat :=
        let dimmed := b.toNat * r.brightness.toNat / 255 * s.tables.panel.globalDim.toNat / 255
        if s.health.hot = true then dimmed / 2 else dimmed
      let c := s.tables.palette[s.colourOf w]
      (driven → s.lampDrive w = (level c.red, level c.green, level c.blue)) ∧ (¬driven → s.lampDrive w = (0, 0, 0))

/-- A matched ACK, RESET or SELECT with a target it does not accept is refused BAD-TARGET; a matched EXECUTE that does not
equal a held selection is passed over on an empty slot when broadcast, refused NO-SELECTION when addressed, and refused
MISMATCH on a held slot, which keeps its selection (R96, R106, R114, R118). -/
def Obligations.ConsoleRefusals : Prop :=
  (∀ (s : State) (c : ConsoleFrame), s.obeys c →
       let refused (i : Instr) (code : Byte) : Prop :=
         ∃ t, exec i s = .next t ∧ s.passes t c.port (consoleFrame c code) ∧ s.sameButReports t ∧
           s.makes t [.commandRefused c.console .badTarget code c.targetKind c.targetIndex]
       (¬windowTarget c → refused (.ack c) 1 ∧ refused (.reset c) 2) ∧
       ((∀ x : Target, namesTarget c x → ¬s.selectable x) → refused (.select c) 6)) ∧
  ∀ (s : State) (c : ConsoleFrame), s.obeys c →
    let refused (why : RefusalReason) : Prop :=
      ∃ t, exec (.execute c) s = .next t ∧ s.passes t c.port (consoleFrame c 7) ∧ s.sameButReports t ∧
        s.makes t [.commandRefused c.console why 7 c.targetKind c.targetIndex]
    (s.selection = none → c.dest = 255 →
      ∃ t, exec (.execute c) s = .next t ∧ s.passes t c.port (consoleFrame c 7) ∧ s.sameButPorts t) ∧
    (s.selection = none → c.dest ≠ 255 → refused .noSelection) ∧
    (∀ h, s.selection = some h → h.console ≠ c.console ∨ ¬namesTarget c h.target → refused .mismatch)

/-- A matched SELECT with an acceptable target holds it with a fresh age timer, a different selection being REPLACED first; a
matched CANCEL from the selection's console, and the age timer's end, empty the slot; an age timer that a SELECT has
restarted does not expire (R111, R112, R115, R116, R117, R119). -/
def Obligations.SelectionSlotMoves : Prop :=
  (∀ (s : State) (c : ConsoleFrame) (x : Target), s.obeys c → namesTarget c x → s.selectable x →
       ∃ t, exec (.select c) s = .next t ∧ s.passes t c.port (consoleFrame c 6) ∧
         { s with selection := t.selection }.sameButReports t ∧
         t.selection = some { console := c.console, target := x, age := .running (s.tables.panel.selectionAgeS * 1000) } ∧
         (∀ h, s.selection = some h → h.console ≠ c.console ∨ h.target ≠ x →
           s.makes t [.selection h.console .replaced h.target, .selection c.console .selected x]) ∧
         ((s.selection = none ∨ ∃ h, s.selection = some h ∧ h.console = c.console ∧ h.target = x) →
           s.makes t [.selection c.console .selected x])) ∧
  ∀ s : State,
    (∀ c : ConsoleFrame, s.obeys c →
      (∀ h, s.selection = some h → h.console = c.console →
        ∃ t, exec (.cancel c) s = .next t ∧ s.passes t c.port (consoleFrame c 8) ∧
          { s with selection := none }.sameButReports t ∧ s.makes t [.selection h.console .cancelled h.target]) ∧
      ((∀ h, s.selection = some h → h.console ≠ c.console) →
        ∃ t, exec (.cancel c) s = .next t ∧ s.passes t c.port (consoleFrame c 8) ∧ s.sameButPorts t)) ∧
    (s.phase = .running → (∀ h, s.selection = some h → h.age ≠ .running 0) → s.passesOver .ageTimerExpiry) ∧
    (s.phase = .running → ∀ h, s.selection = some h → h.age = .running 0 →
      ∃ t, exec .ageTimerExpiry s = .next t ∧ s.portsIdle t ∧ { s with selection := none }.sameButReports t ∧
        s.makes t [.selection h.console .expired h.target])

/-- A matched EXECUTE that equals the held selection of a group empties the slot and resets the group, in every group
state (R74, R77, R113). -/
def Obligations.ExecuteResetsGroup : Prop :=
  ∀ (s : State) (c : ConsoleFrame) (h : Selection) (g : Fin 8), s.obeys c → s.selection = some h →
    h.console = c.console → h.target = .group g → namesTarget c (.group g) →
    ∃ t, exec (.execute c) s = .next t ∧ s.passes t c.port (consoleFrame c 7) ∧ s.makes t [.group g .armed] ∧
      { s with selection := none, groups := t.groups, windows := t.windows }.sameButReports t ∧
      t.groups = upd s.groups g (fun _ =>
        { state := .armed, entries := [], origin := none, overflow := 0, settle := .stopped, marker := none }) ∧
      ∀ w : Fin 96, t.windows[w] =
        if s.groups[g].marker = some w then
          { s.windows[w] with markers := s.windows[w].markers &&& ~~~BitVec.twoPow 8 g.val }
        else s.windows[w]

/-- A matched EXECUTE that equals the held selection of a channel empties the slot; a channel in LOCKOUT below K votes is
reset, and every other is refused with the reason of R94 (R94, R95, R113, R118). -/
def Obligations.ExecuteResetsChannel : Prop :=
  ∀ (s : State) (c : ConsoleFrame) (h : Selection) (n : Fin 8), s.obeys c → s.selection = some h →
    h.console = c.console → h.target = .trip n → namesTarget c (.trip n) →
    let ch := s.channels[n]
    let refused (why : RefusalReason) : Prop :=
      ∃ t, exec (.execute c) s = .next t ∧ s.passes t c.port (consoleFrame c 7) ∧
        { s with selection := none }.sameButReports t ∧
        s.makes t [.commandRefused c.console why 7 c.targetKind c.targetIndex]
    (ch.state = .lockout → s.tables.trip[n].required ≤ ch.count → refused .conditionPresent) ∧
    (ch.state = .firing → refused .firing) ∧
    (ch.state ≠ .lockout → ch.state ≠ .firing → refused .notLocked) ∧
    (ch.state = .lockout → ch.count < s.tables.trip[n].required →
      let st : ChannelState := if ch.permit then .ready else .disarmed
      ∃ t, exec (.execute c) s = .next t ∧ s.passes t c.port (consoleFrame c 7) ∧
        { s with
          selection := none
          channels := upd s.channels n (fun v => { v with state := st })
          nv := { s.nv with lockout := upd s.nv.lockout n (fun _ => false) } }.sameButDisplay t ∧
        t.horn = s.horn ∧ (s.emit (.trip n st)).reports <+: t.reports ∧
        ∀ w : Fin 96,
          if s.tables.trip[n].window = some w then
            t.windows[w].feeders = leaveFeeder (.channel n) s.windows[w].feeders ∧
            t.windows[w].state =
              if t.windows[w].feeders = [] ∧ s.windows[w].state = .held then
                if s.tables.window[w].sequence = .manual then .clearWait else .quiet
              else s.windows[w].state
          else t.windows[w] = s.windows[w])

/-! ## Management requests: what all of them share -/

/-- A consumed request that finds no EMPTY slot is discarded: UNANSWERED of its port rises, and nothing else changes
(R146, R154). -/
def Obligations.UnansweredRequests : Prop :=
  ∀ (s : State) (r : Request) (i : Instr),
    (i ∈ (requestCommands r).map (·.1) ∨ i ∈ (writeCommands r).map (·.1) ∨ i = .read r ∨
      (i = .writeReadOnlyTable r ∧ (r.args = [] ∨ ∃ b rest, r.args = b :: rest ∧ 8 ≤ b.toNat)) ∨
      ∃ code, (code = 0 ∨ 17 ≤ code.toNat) ∧ i = .badRequestCode r.port r.src (bytes16 r.id.toNat ++ code :: r.args)) →
    s.receives r.port = true → 2 ≤ (s.port r.port).slots.length →
    ∃ t, exec i s = .next t ∧ t = { s with field := t.field, station := t.station } ∧
      Port.sameButArbiter { s.port r.port with unanswered := min 65535 ((s.port r.port).unanswered + 1) } (t.port r.port) ∧
      (s.port (otherPort r.port)).sameButArbiter (t.port (otherPort r.port))

/-- A request of the wrong length is refused BAD-LENGTH ahead of BUSY and of its own checks; a request code 0 or 17 to 255
gives BAD-VALUE, a body below three bytes BAD-LENGTH, a WRITE of a table code 8 to 255 BAD-TABLE (R164, R166, R191; the
fields of the refusal record of a wrong length are log 15). -/
def Obligations.MalformedRequestsRefused : Prop :=
  (∀ (s : State) (r : Request), s.admits r.port →
       (∀ i a, (i, a) ∈ requestCommands r → r.args.length ≠ argBytes a.code →
         ∃ t, exec i s = .next t ∧ s.refusal t r (a.note .badLength)) ∧
       (∀ i t', (i, t') ∈ writeCommands r → r.args.length ≠ 1 + t'.recordBytes →
         ∃ t, exec i s = .next t ∧ s.refusal t r (writeNote r t' .badLength)) ∧
       (r.args.length ≠ 3 → ∃ t, exec (.read r) s = .next t ∧
         s.refusal t r { request := 1, table := r.args.head?, index := r.args[1]?, result := .badLength })) ∧
  ∀ (s : State) (r : Request), s.admits r.port →
    (∀ code : Byte, code = 0 ∨ 17 ≤ code.toNat →
      ∃ t, exec (.badRequestCode r.port r.src (bytes16 r.id.toNat ++ code :: r.args)) s = .next t ∧
        s.refusal t r { request := code, table := none, index := none, result := .badValue }) ∧
    (∀ (b1 b0 : Byte) (body : List Byte),
      body = [] ∧ b1 = 0 ∧ b0 = 0 ∨ body = [b1] ∧ b0 = 0 ∨ body = [b1, b0] → r.id.toNat = b1.toNat * 256 + b0.toNat →
      ∃ t, exec (.badRequestCode r.port r.src body) s = .next t ∧
        s.refusal t r { request := 0, table := none, index := none, result := .badLength }) ∧
    (∀ (table : Byte) (rest : List Byte), r.args = table :: rest → 8 ≤ table.toNat → rest ≠ [] →
      ∃ t, exec (.writeReadOnlyTable r) s = .next t ∧
        s.refusal t r { request := 3, table := none, index := rest.head?, result := .badTable }) ∧
    (r.args = [] → ∃ t, exec (.writeReadOnlyTable r) s = .next t ∧
      s.refusal t r { request := 3, table := none, index := none, result := .badLength }) ∧
    (∀ table : Byte, r.args = [table] → 8 ≤ table.toNat → ∃ t, exec (.writeReadOnlyTable r) s = .next t ∧
      s.refusal t r { request := 3, table := some table, index := none, result := .badLength })

/-- What a STORE or FREEZE-TRIP in flight, and a pending pattern reset, answer BUSY (R165). -/
def Obligations.BusyAnswers : Prop :=
  ∀ (s : State) (r : Request), s.admits r.port →
    (s.management.flight.isSome = true →
      (∀ i t', (i, t') ∈ writeCommands r → r.args.length = 1 + t'.recordBytes →
        ∃ t, exec i s = .next t ∧ s.refusal t r (writeNote r t' .busy)) ∧
      (∀ i a, (i, a) ∈ requestCommands r → a.code = 4 ∨ a.code = 9 ∨ a.code = 10 ∨ a.code = 11 →
        r.args.length = argBytes a.code → ∃ t, exec i s = .next t ∧ s.refusal t r (a.note .busy))) ∧
    (s.management.pendingReset.isSome = true →
      ∀ i a, (i, a) ∈ requestCommands r → a.code = 10 ∨ a.code = 11 ∨ a.code = 16 → r.args.length = argBytes a.code →
        ∃ t, exec i s = .next t ∧ s.refusal t r (a.note .busy))

/-! ## Reading -/

/-- READ has its checks in order and gives its records, with the pointer behind them and the read count (R168). The records
are those of the part as the request is taken, its own slot RESERVED, which the record of COUNTERS counts (R146, R154,
R167). -/
def Obligations.ReadAnswered : Prop :=
  (∀ (s : State) (r : Request) (b first count : Byte), s.admits r.port → r.args = [b, first, count] →
       let note (table : Option Byte) (result : ResultCode) : LastRefusal :=
         { request := 1, table, index := some first, result }
       (16 ≤ b.toNat → ∃ t, exec (.read r) s = .next t ∧ s.refusal t r (note none .badTable)) ∧
       ∀ x : TableId, b = x.code →
         (¬(1 ≤ count.toNat ∧ count.toNat ≤ 8) →
           ∃ t, exec (.read r) s = .next t ∧ s.refusal t r (note (some b) .badValue)) ∧
         (1 ≤ count.toNat → count.toNat ≤ 8 →
           (x.size ≤ first.toNat + count.toNat - 1 →
             ∃ t, exec (.read r) s = .next t ∧ s.refusal t r (note (some b) .badIndex)) ∧
           (first.toNat + count.toNat - 1 < x.size →
             (234 < count.toNat * x.recordBytes →
               ∃ t, exec (.read r) s = .next t ∧ s.refusal t r (note (some b) .badLength)) ∧
             (count.toNat * x.recordBytes ≤ 234 →
               ∃ t, exec (.read r) s = .next t ∧
                 s.doneWith t r
                   { s.management.done with
                     readTable := x, readIndex := first.toNat + count.toNat, readCount := count.toNat }
                   ([b, first, count] ++ (List.range count.toNat).flatMap fun k =>
                     (s.asTaken r).record x (first.toNat + k)))))) ∧
  ∀ (s : State) (r : Request) (p : PortId),
    let q := s.port p
    (s.asTaken r).record .counters (match p with | .field => 0 | .station => 1) =
      bytes16 q.crc ++ bytes16 q.length ++ bytes16 q.stall ++ bytes16 q.overflow ++ bytes16 q.unanswered ++
        [q.status.code, byteOf q.fifo.length, byteOf (q.slots.length + if p = r.port then 1 else 0),
         byteOf s.reports.length, byteOf s.lost]

/-- READ-NEXT gives what the read count asks, what remains and what fits, or BAD-INDEX at the table's end, from the part with
the request's own slot RESERVED; STATUS gives the status record; CLEAR-REFUSAL makes the last refusal record absent (R154,
R166, R169, R177, R179; STATUS shows the key progress as it stood before, log 26). -/
def Obligations.ReadNextAndStatusAnswered : Prop :=
  (∀ (s : State) (r : Request), s.admits r.port → r.args = [] → s.managementOk →
       let m := s.management
       (m.readIndex = m.readTable.size →
         ∃ t, exec (.readNext r) s = .next t ∧
           s.refusal t r { request := 2, table := none, index := none, result := .badIndex }) ∧
       (m.readIndex < m.readTable.size →
         ∃ t n, exec (.readNext r) s = .next t ∧ 1 ≤ n ∧ n ≤ m.readCount ∧ m.readIndex + n ≤ m.readTable.size ∧
           n * m.readTable.recordBytes ≤ 234 ∧
           (n = m.readCount ∨ m.readIndex + n = m.readTable.size ∨ 234 < (n + 1) * m.readTable.recordBytes) ∧
           s.doneWith t r { m.done with readIndex := m.readIndex + n }
             ([m.readTable.code, byteOf m.readIndex, byteOf n] ++
               (List.range n).flatMap fun k => (s.asTaken r).record m.readTable (m.readIndex + k)))) ∧
  ∀ (s : State) (r : Request), s.admits r.port → r.args = [] →
    (∃ t, exec (.status r) s = .next t ∧ s.doneWith t r s.management.done s.statusRecord) ∧
    (∃ t, exec (.clearRefusal r) s = .next t ∧ s.doneWith t r { s.management.done with lastRefusal := none } [])

/-! ## Writing -/

/-- A WRITE with an index beyond its table is refused BAD-INDEX, and one with a field out of its range BAD-VALUE
(R164, R170, R191). -/
def Obligations.WriteIndexAndValuesRefused : Prop :=
  ∀ (s : State) (r : Request) (i : Byte) (rec : List Byte), s.admits r.port → r.args = i :: rec →
    s.management.flight = none →
    (∀ c x, (c, x) ∈ writeCommands r → rec.length = x.recordBytes → x.size ≤ i.toNat →
      ∃ t, exec c s = .next t ∧ s.refusal t r (writeNote r x .badIndex)) ∧
    (rec.length = 19 → i = 0 → (∀ p : Panel, p.inRange → ¬p.spelledBy rec) →
      ∃ t, exec (.writePanel r) s = .next t ∧ s.refusal t r (writeNote r .panel .badValue)) ∧
    (rec.length = 7 → i.toNat < 24 → (∀ e, (∀ x, e = some x → x.inRange) → ¬sourceSpelledBy e rec) →
      ∃ t, exec (.writeSource r) s = .next t ∧ s.refusal t r (writeNote r .source .badValue)) ∧
    (rec.length = 14 → (∀ x : PointRecord, x.inRange → x.service = .out → ¬x.spelledBy rec) →
      ∃ t, exec (.writePoint r) s = .next t ∧ s.refusal t r (writeNote r .point .badValue)) ∧
    (rec.length = 5 → i.toNat < 96 → (∀ x : WindowRecord, rec ≠ x.bytes) →
      ∃ t, exec (.writeWindow r) s = .next t ∧ s.refusal t r (writeNote r .window .badValue)) ∧
    (rec.length = 2 → i.toNat < 8 → (∀ x : GroupRecord, x.inRange → rec ≠ x.bytes) →
      ∃ t, exec (.writeGroup r) s = .next t ∧ s.refusal t r (writeNote r .group .badValue)) ∧
    (rec.length = 7 → i.toNat < 8 → (∀ x : TripRecord, x.inRange → rec ≠ x.bytes) →
      ∃ t, exec (.writeTrip r) s = .next t ∧ s.refusal t r (writeNote r .trip .badValue)) ∧
    (rec.length = 1 → i.toNat < 96 → (∀ m : Bool, rec ≠ [flagByte m]) →
      ∃ t, exec (.writeLampMask r) s = .next t ∧ s.refusal t r (writeNote r .lampMask .badValue))

/-- An accepted PANEL write replaces the settings but scheme, level and direction, and acts on the Mode Tracker as R30
and on the health feeder as R137 give (R30, R137, R170). -/
def Obligations.WritePanelAccepted : Prop :=
  ∀ (s : State) (r : Request) (p : Panel) (rec : List Byte), s.admits r.port → s.management.flight = none →
    p.inRange → p.spelledBy rec → r.args = 0 :: rec →
    let was := s.tables.panel
    let unit := was.unitNumber ≠ p.unitNumber
    let fresh := Timer.running (p.unitTimeoutS * 1000)
    ∃ t, exec (.writePanel r) s = .next t ∧ s.answers t r .done [] ∧
      { s with
        tables := { s.tables with
          panel := { p with scheme := was.scheme, level := was.level, direction := was.direction } }
        management := s.management.pointed .panel 0 }.sameButModeAndHealth t ∧
      (p.modeSource = .snoop →
        (was.modeSource = .set ∨ unit → t.mode.effective = none ∧ t.mode.unitTimer = fresh ∧
          (s.mode.effective ≠ none → t.mode.held = none ∧ t.mode.hold = .stopped)) ∧
        (unit → t.mode.lastKnown = none) ∧ (¬unit → t.mode.lastKnown = s.mode.lastKnown) ∧
        (was.modeSource = .snoop → ¬unit → t.mode = s.mode)) ∧
      (p.modeSource = .set →
        t.mode = { s.mode with
          lastKnown := if unit ∧ s.mode.effective = none then none else s.mode.lastKnown
          unitTimer := if was.modeSource = .snoop then .stopped else s.mode.unitTimer }) ∧
      t.health = { s.health with
        feeder := if was.healthMasks = p.healthMasks then s.health.feeder
          else decide (s.health.flags &&& ~~~p.healthMasks ≠ 0) }

/-- A SOURCE write of a record in range: refused BAD-VALUE where it overlaps, REFUSED-IN-SERVICE while a point of either
range is IN, else the entry is replaced and the points of both ranges lose their source (R2, R3). -/
def Obligations.WriteSourceJudged : Prop :=
  ∀ (s : State) (r : Request) (i : Fin 24) (e : Option SourceEntry) (rec : List Byte), s.admits r.port →
    s.management.flight = none → (∀ x, e = some x → x.inRange) → sourceSpelledBy e rec → r.args = byteOf i.val :: rec →
    let overlaps := ∃ (x o : SourceEntry) (j : Fin 24), e = some x ∧ j ≠ i ∧ s.tables.source[j] = some o ∧ ¬x.apart o
    let inService := ∃ p : Fin 256,
      (holdsPoint s.tables.source[i] p = true ∨ holdsPoint e p = true) ∧ s.tables.point[p].service = .inn
    (overlaps → ∃ t, exec (.writeSource r) s = .next t ∧ s.refusal t r (writeNote r .source .badValue)) ∧
    (¬overlaps → inService →
      ∃ t, exec (.writeSource r) s = .next t ∧ s.refusal t r (writeNote r .source .refusedInService)) ∧
    (¬overlaps → ¬inService →
      ∃ t, exec (.writeSource r) s = .next t ∧ s.answers t r .done [] ∧
        t = { s with
          tables := { s.tables with source := upd s.tables.source i fun _ => e }
          entries := upd s.entries i fun _ => { freshness := .stopped, gapPending := false }
          points := t.points, scanners := t.scanners, management := s.management.pointed .source i.val
          field := t.field, station := t.station } ∧
        (∀ p : Fin 256,
          if holdsPoint s.tables.source[i] p || holdsPoint e p then
            t.points[p].condition = .normal ∧ t.points[p].delay = .stopped ∧
            (∀ (x : SourceEntry) (k : Fin 8), e = some x → x.scanner = 31 → x.pointOf k.val = some p →
              ∀ raw, s.inputs[k].reading = some raw →
                t.points[p].raw = some raw ∧ t.points[p].quality = .good ∧ t.points[p].changeStamp = some s.clock) ∧
            ((∀ (x : SourceEntry) (k : Fin 8), e = some x → x.scanner = 31 → x.pointOf k.val = some p →
                s.inputs[k].reading = none) →
              t.points[p].raw = none ∧ t.points[p].quality = .unseen ∧ t.points[p].changeStamp = none)
          else t.points[p] = s.points[p]) ∧
        ∀ k : Fin 31,
          let resolved := s.scanners[k].status = .gap ∧
            (∃ x, (s.tables.source[i] = some x ∨ e = some x) ∧ x.scanner.val = k.val) ∧
            ∀ j : Fin 24, t.tables.entryNames j k.val = true → t.entries[j].gapPending = false
          (resolved → t.scanners[k] = { s.scanners[k] with status := .tracking }) ∧
          (¬resolved → t.scanners[k] = s.scanners[k]))

/-- A POINT write of a record in range with service OUT: protection, then the point's service, then the frozen vote list,
and else the record is replaced (R171, R172, R173, R176). -/
def Obligations.WritePointJudged : Prop :=
  ∀ (s : State) (r : Request) (p : Fin 256) (x : PointRecord) (rec : List Byte), s.admits r.port →
    s.management.flight = none → x.inRange → x.service = .out → x.spelledBy rec → r.args = byteOf p.val :: rec →
    let frozenVotes := s.nv.frozen = true ∧ s.tables.point[p].votes ≠ x.votes
    let refused (result : ResultCode) : Prop :=
      ∃ t, exec (.writePoint r) s = .next t ∧ s.refusal t r (writeNote r .point result)
    (s.protects p → refused .refusedProtected) ∧
    (s.tables.panel.level ≤ 5 → ¬s.protects p →
      (s.tables.point[p].service = .inn → refused .refusedInService) ∧
      (s.tables.point[p].service = .out →
        (frozenVotes → refused .refusedFrozen) ∧
        (¬frozenVotes → ∃ t, exec (.writePoint r) s = .next t ∧ s.answers t r .done [] ∧
          t = { s with
            tables := { s.tables with point := upd s.tables.point p fun _ => x }
            management := s.management.pointed .point p.val, field := t.field, station := t.station })))

/-- WINDOW, PALETTE and LAMP-MASK writes replace their record; a WINDOW write that takes the last horn-YES window in ALERT to
horn NO turns the horn OFF; a LAMP-MASK write sets LAMP-FAULT where an unmasked fault is then present (R40, R57, R122,
R129, R135). -/
def Obligations.WriteDisplayTablesAccepted : Prop :=
  (∀ (s : State) (r : Request), s.admits r.port → s.management.flight = none →
       (∀ (w : Fin 96) (x : WindowRecord), r.args = byteOf w.val :: x.bytes →
         ∃ t, exec (.writeWindow r) s = .next t ∧ s.answers t r .done [] ∧
           t = { s with
             tables := { s.tables with window := upd s.tables.window w fun _ => x }
             horn :=
               if s.tables.window[w].horn = true ∧ x.horn = false ∧ s.windows[w].state = .alert ∧ t.hornAlert = false
               then .off else s.horn
             management := s.management.pointed .window w.val, field := t.field, station := t.station }) ∧
       (∀ (i : Fin 8) (x : Colour), r.args = byteOf i.val :: x.bytes →
         ∃ t, exec (.writePalette r) s = .next t ∧ s.answers t r .done [] ∧
           t = { s with
             tables := { s.tables with palette := upd s.tables.palette i fun _ => x }
             management := s.management.pointed .palette i.val, field := t.field, station := t.station })) ∧
  ∀ (s : State) (r : Request) (w : Fin 96) (m : Bool), s.admits r.port → s.management.flight = none →
    r.args = [byteOf w.val, flagByte m] →
    ∃ t, exec (.writeLampMask r) s = .next t ∧ s.answers t r .done [] ∧
      { s with
        tables := { s.tables with lampMask := upd s.tables.lampMask w fun _ => m }
        management := s.management.pointed .lampMask w.val }.sameButHealth t ∧
      ((∃ v : Fin 96, t.tables.lampMask[v] = false ∧ s.lamps[v].fault ≠ none) →
        t.health.flags = s.health.flags ||| BitVec.twoPow 11 4) ∧
      ((∀ v : Fin 96, t.tables.lampMask[v] = true ∨ s.lamps[v].fault = none) →
        t.health = s.health ∧ t.reports = s.reports ∧ t.windows = s.windows ∧ t.horn = s.horn)

/-- An accepted GROUP write replaces the record, and one from enable YES to NO performs a group reset (R63, R74, R75). -/
def Obligations.WriteGroupAccepted : Prop :=
  ∀ (s : State) (r : Request) (g : Fin 8) (x : GroupRecord), s.admits r.port → s.management.flight = none → x.inRange →
    r.args = byteOf g.val :: x.bytes →
    let disables := s.tables.group[g].enable = true ∧ x.enable = false
    ∃ t, exec (.writeGroup r) s = .next t ∧ s.answers t r .done [] ∧
      t = { s with
        tables := { s.tables with group := upd s.tables.group g fun _ => x }
        groups := t.groups, windows := t.windows, reports := t.reports, lost := t.lost
        management := s.management.pointed .group g.val, field := t.field, station := t.station } ∧
      (¬disables → t.groups = s.groups ∧ t.windows = s.windows ∧ s.makes t []) ∧
      (disables → s.makes t [.group g .armed] ∧
        t.groups = upd s.groups g (fun _ =>
          { state := .armed, entries := [], origin := none, overflow := 0, settle := .stopped, marker := none }) ∧
        ∀ w : Fin 96, t.windows[w] =
          if s.groups[g].marker = some w then
            { s.windows[w] with markers := s.windows[w].markers &&& ~~~BitVec.twoPow 8 g.val }
          else s.windows[w])

/-- A TRIP write of a record in range: the frozen table, the maintenance condition, the channel's state, and else the
record is replaced and the channel evaluated under it, which may fire it (R81, R82, R84, R86, R89). -/
def Obligations.WriteTripJudged : Prop :=
  ∀ (s : State) (r : Request) (c : Fin 8) (x : TripRecord), s.admits r.port → s.management.flight = none → x.inRange →
    r.args = byteOf c.val :: x.bytes →
    let maintained := s.mode.effective = some .isolated ∨ s.mode.effective = some .standstill
    let active := s.channels[c].state = .firing ∨ s.channels[c].state = .lockout
    let refused (result : ResultCode) : Prop :=
      ∃ t, exec (.writeTrip r) s = .next t ∧ s.refusal t r (writeNote r .trip result)
    (s.nv.frozen = true → refused .refusedFrozen) ∧
    (s.nv.frozen = false →
      (¬maintained → refused .refusedMaintenance) ∧
      (maintained → active → refused .refusedActive) ∧
      (maintained → ¬active →
        let count := (s.channels[c].voters.filter (Voter.counts x.stale)).length
        let permit : Bool := x.enable = true ∧ ∃ m, s.mode.effective = some m ∧ x.permits.has m = true
        let st : ChannelState :=
          if permit = false then .disarmed else if count < x.required then .ready
          else if s.channels[c].state = .ready then .firing else .armWait
        ∃ t, exec (.writeTrip r) s = .next t ∧ s.answers t r .done [] ∧
          t = { s with
            tables := { s.tables with trip := upd s.tables.trip c fun _ => x }
            channels := upd s.channels c fun v =>
              { v with count, permit, state := st, pulse := if st = .firing then .running x.pulseMs else v.pulse }
            nv := { s.nv with lockout := if st = .firing then upd s.nv.lockout c fun _ => true else s.nv.lockout }
            coils := if st = .firing then upd s.coils c fun v => { v with run := none } else s.coils
            windows := t.windows, horn := t.horn, reports := t.reports, lost := t.lost
            management := s.management.pointed .trip c.val, field := t.field, station := t.station } ∧
          (st = s.channels[c].state → s.makes t [] ∧ t.windows = s.windows ∧ t.horn = s.horn) ∧
          (st ≠ s.channels[c].state → (s.emit (.trip c st)).reports <+: t.reports) ∧
          (st ≠ .firing → t.windows = s.windows ∧ t.horn = s.horn) ∧
          (st = .firing → ∀ w : Fin 96, x.window = some w →
            t.windows[w].state = .alert ∧ Feeder.channel c ∈ t.windows[w].feeders)))

/-! ## Service, locks, protection and the reset key -/

/-- SERVICE: BAD-INDEX never arises for a point byte; a state other than IN or OUT is BAD-VALUE; a repeated service is
DONE with no change; OUT and IN act as R18 and R19 give (R18, R19, R22, R175). -/
def Obligations.ServiceTaken : Prop :=
  ∀ (s : State) (r : Request) (p : Fin 256) (st : Byte), s.admits r.port → s.management.flight = none →
    r.args = [byteOf p.val, st] →
    let old := s.tables.point[p]
    let v := s.points[p]
    (2 ≤ st.toNat → ∃ t, exec (.serviceOut r) s = .next t ∧
      s.refusal t r { request := 4, table := none, index := some (byteOf p.val), result := .badValue }) ∧
    (st = 0 →
      (old.service = .out → ∃ t, exec (.serviceOut r) s = .next t ∧ s.doneWith t r s.management.done []) ∧
      (old.service = .inn → ∃ t, exec (.serviceOut r) s = .next t ∧ s.answers t r .done [] ∧
        { s with
          tables := { s.tables with point := upd s.tables.point p fun x => { x with service := .out } }
          management := s.management.done }.sameButPoints t ∧
        t.points = upd s.points p (fun v => { v with condition := .normal, delay := .stopped, alarmStamp := none }) ∧
        (s.emit (.service p .out)).reports <+: t.reports ∧
        (∀ c, c ∈ old.votes → ∀ x, x ∈ t.channels[c].voters → x.point ≠ p) ∧
        ∀ w, old.window = some w → s.feederActive p = true → Feeder.point p ∉ t.windows[w].feeders)) ∧
    (st = 1 →
      (old.service = .inn → ∃ t, exec (.serviceIn r) s = .next t ∧ s.doneWith t r s.management.done []) ∧
      (old.service = .out → ∃ t, exec (.serviceIn r) s = .next t ∧ s.answers t r .done [] ∧
        { s with
          tables := { s.tables with point := upd s.tables.point p fun x => { x with service := .inn } }
          management := s.management.done }.sameButPoints t ∧
        (let rest := { v with condition := .normal, delay := .stopped, alarmStamp := none }
         t.points = upd s.points p fun _ =>
          if v.quality ≠ .unseen ∧ alarmRaw old v.raw = true then
            if old.onDelay = 0 then
              { rest with condition := .abnormal, changeStamp := some s.clock, alarmStamp := some s.clock }
            else { rest with condition := .onDelay, delay := .running old.onDelay, changeStamp := some s.clock }
          else rest) ∧
        (s.emit (.service p .inn)).reports <+: t.reports ∧
        ∀ c, c ∈ old.votes →
          { point := p, condition := t.points[p].condition, quality := v.quality } ∈ t.channels[c].voters))

/-- The lock requests: a block beyond 15 is BAD-INDEX, an unlock needs the maintenance condition, and the locks are set.
PROTECT: its values, then the maintenance condition, and else all three settings at once (R36, R173, R174). -/
def Obligations.LocksAndProtectTaken : Prop :=
  (∀ (s : State) (r : Request), s.admits r.port →
       let maintained := s.mode.effective = some .isolated ∨ s.mode.effective = some .standstill
       let set (l : Vector Lock 16) : Management := { s.management.done with locks := l }
       (∀ b : Byte, r.args = [b] →
         let note (request : Byte) (result : ResultCode) : LastRefusal :=
           { request, table := none, index := some b, result }
         (16 ≤ b.toNat →
           (∃ t, exec (.lockBlock r) s = .next t ∧ s.refusal t r (note 5 .badIndex)) ∧
           (∃ t, exec (.unlockBlock r) s = .next t ∧ s.refusal t r (note 6 .badIndex))) ∧
         ∀ k : Fin 16, b.toNat = k.val →
           (∃ t, exec (.lockBlock r) s = .next t ∧ s.doneWith t r (set (upd s.management.locks k fun _ => .locked)) []) ∧
           (maintained →
             ∃ t, exec (.unlockBlock r) s = .next t ∧ s.doneWith t r (set (upd s.management.locks k fun _ => .unlocked)) []) ∧
           (¬maintained → ∃ t, exec (.unlockBlock r) s = .next t ∧ s.refusal t r (note 6 .refusedMaintenance))) ∧
       (r.args = [] →
         (∃ t, exec (.lockAll r) s = .next t ∧ s.doneWith t r (set (Vector.replicate 16 .locked)) []) ∧
         (maintained → ∃ t, exec (.unlockAll r) s = .next t ∧ s.doneWith t r (set (Vector.replicate 16 .unlocked)) []) ∧
         (¬maintained → ∃ t, exec (.unlockAll r) s = .next t ∧
           s.refusal t r { request := 8, table := none, index := none, result := .refusedMaintenance }))) ∧
  ∀ (s : State) (r : Request) (a b c : Byte), s.admits r.port → s.management.flight = none → r.args = [a, b, c] →
    let maintained := s.mode.effective = some .isolated ∨ s.mode.effective = some .standstill
    let note (result : ResultCode) : LastRefusal := { request := 9, table := none, index := none, result }
    (2 ≤ a.toNat ∨ 6 ≤ b.toNat ∨ 2 ≤ c.toNat →
      ∃ t, exec (.protect r) s = .next t ∧ s.refusal t r (note .badValue)) ∧
    ∀ (sc : Scheme) (d : Direction), a = sc.code → b.toNat ≤ 5 → c = d.code →
      (¬maintained → ∃ t, exec (.protect r) s = .next t ∧ s.refusal t r (note .refusedMaintenance)) ∧
      (maintained → ∃ t, exec (.protect r) s = .next t ∧ s.answers t r .done [] ∧
        t = { s with
          tables := { s.tables with
            panel := { s.tables.panel with scheme := sc, level := b.toNat, direction := d } }
          management := s.management.done, field := t.field, station := t.station })

/-- RESET-KEY moves the key progress by the table of R177, with its timer, and the fourth key of the pattern makes a
pattern reset pending; the end of a timer that has run out takes the progress to 0, and one that a key has restarted does
not end (R177, R178, R180). -/
def Obligations.ResetKeysTaken : Prop :=
  ∀ s : State,
    (∀ (r : Request) (key : Byte), s.admits r.port → r.args = [key] → s.management.pendingReset = none →
      s.management.keyProgress ≤ 3 →
      let row : List Nat := if key = 0 then [1, 1, 3, 1] else if key = 1 then [0, 2, 0, 0] else [0, 0, 0, 0]
      let progress := row.getD s.management.keyProgress 0
      let complete : Bool := s.management.keyProgress = 3 ∧ key = 1
      ∃ t, exec (.resetKey r) s = .next t ∧
        t = { s with
          management := { s.management with
            keyProgress := progress
            keyTimer := if progress = 0 then .stopped else .running 1000
            pendingReset := if complete then some true else none }
          field := t.field, station := t.station } ∧
        Port.sameButArbiter
          { s.port r.port with
            slots := (s.port r.port).slots ++ [.filled (s.response r.id r.src .done []) complete] } (t.port r.port) ∧
        (s.port (otherPort r.port)).sameButArbiter (t.port (otherPort r.port))) ∧
    (s.phase = .running → s.management.keyTimer ≠ .running 0 → s.passesOver .keyTimerExpiry) ∧
    (s.phase = .running → s.management.keyTimer = .running 0 →
      ∃ t, exec .keyTimerExpiry s = .next t ∧ s.portsIdle t ∧
        { s with management := { s.management with keyProgress := 0, keyTimer := .stopped } }.sameButPorts t)

/-! ## Health -/

/-- CLEAR-HEALTH clears the lamp fault list, then each SET flag whose condition is absent, with the records in ascending
order, and evaluates the health feeder (R129, R136, R137). That it clears the list with every flag CLEAR too is the model's
choice (DESIGN CHOICE, log 31). -/
def Obligations.ClearHealthTaken : Prop :=
  ∀ (s : State) (r : Request), s.admits r.port → r.args = [] →
    let cleared (n : Fin 11) : Bool := s.flagSet n && (n = flagLampFault || !s.conditionPresent n)
    ∃ t, exec (.clearHealth r) s = .next t ∧ s.answers t r .done [] ∧
      { s with
        lamps := Vector.replicate 96 { fault := none, run := none }
        management := s.management.done }.sameButHealth t ∧
      (∀ n : Fin 11, t.flagSet n = (s.flagSet n && !cleared n)) ∧
      t.health = { s.health with
        flags := t.health.flags, feeder := decide (t.health.flags &&& ~~~s.tables.panel.healthMasks ≠ 0) } ∧
      (((ascending 11).filter cleared).foldl (fun s n => s.emit (.health n false)) s).reports <+: t.reports

/-- A lamp check on a lit lamp: its reading from the driven elements, the run and the third equal reading's recording, and
LAMP-FAULT where an unmasked fault is then present; a dark lamp is not checked (R125 to R127, R129, R135). That the run is
absent as soon as the third reading is recorded is the model's choice (DESIGN CHOICE, log 30). -/
def Obligations.LampCheckTaken : Prop :=
  ∀ (s : State) (w : Fin 96) (red green blue : ElementReading), s.phase = .running →
    let x := s.lampDrive w
    let found (k : ElementReading) : Prop := 0 < x.1 ∧ red = k ∨ 0 < x.2.1 ∧ green = k ∨ 0 < x.2.2 ∧ blue = k
    let lamp := s.lamps[w]
    let reads (k : FaultKind) : Prop := match k with
      | .short => found .short
      | .opened => ¬found .short ∧ found .opened
    (s.lampLit w = false →
      ∃ t, exec (.lampCheck w red green blue) s = .next t ∧ s.portsIdle t ∧ s.sameButPorts t) ∧
    (s.lampLit w = true →
      ∃ t, exec (.lampCheck w red green blue) s = .next t ∧ s.portsIdle t ∧ { s with lamps := t.lamps }.sameButHealth t ∧
        (∀ v, v ≠ w → t.lamps[v] = s.lamps[v]) ∧
        (¬found .short → ¬found .opened → t.lamps[w] = { lamp with run := none }) ∧
        ∀ k, reads k →
          ((∀ n, lamp.run ≠ some (k, n)) → t.lamps[w] = { lamp with run := some (k, 1) } ∧ t.health = s.health) ∧
          (∀ n, lamp.run = some (k, n) → n < 2 →
            t.lamps[w] = { lamp with run := some (k, n + 1) } ∧ t.health = s.health) ∧
          (∀ n, lamp.run = some (k, n) → 2 ≤ n →
            t.lamps[w] = { fault := if lamp.fault = some .short then some .short else some k, run := none } ∧
            ((∃ v : Fin 96, s.tables.lampMask[v] = false ∧ t.lamps[v].fault ≠ none) →
              t.health.flags = s.health.flags ||| BitVec.twoPow 11 4)))

/-- A coil check with the output off: its reading in milliohms, the run and the third equal reading's change of state with
its COIL record and COIL-FAULT; a coil is not checked while its output is on (R130 to R132). That the COIL record comes before
COIL-FAULT's records is the model's choice (DESIGN CHOICE, log 33). -/
def Obligations.CoilCheckTaken : Prop :=
  ∀ (s : State) (c : Fin 8) (ohms : Nat), s.phase = .running →
    let reading : CoilState := if 10000000 < ohms then .opened else if ohms < 5000 then .short else .ok
    let coil := s.coils[c]
    (s.channels[c].state = .firing →
      ∃ t, exec (.coilCheck c ohms) s = .next t ∧ s.portsIdle t ∧ s.sameButPorts t) ∧
    (s.channels[c].state ≠ .firing →
      ∃ t, exec (.coilCheck c ohms) s = .next t ∧ s.portsIdle t ∧ { s with coils := t.coils }.sameButHealth t ∧
        (∀ d, d ≠ c → t.coils[d] = s.coils[d]) ∧
        ((∀ n, coil.run ≠ some (reading, n)) →
          t.coils[c] = { coil with run := some (reading, 1) } ∧ { s with coils := t.coils }.sameButPorts t) ∧
        (∀ n, coil.run = some (reading, n) → n < 2 →
          t.coils[c] = { coil with run := some (reading, n + 1) } ∧ { s with coils := t.coils }.sameButPorts t) ∧
        (∀ n, coil.run = some (reading, n) → 2 ≤ n → t.coils[c] = { state := reading, run := none } ∧
          (reading = coil.state → { s with coils := t.coils }.sameButPorts t) ∧
          (reading ≠ coil.state → (s.emit (.coil c reading)).reports <+: t.reports ∧
            (reading = .ok → t.health = s.health) ∧
            (reading ≠ .ok → t.health.flags = s.health.flags ||| BitVec.twoPow 11 5))))

/-- A temperature reading decides HOT, and a supply reading of 16.0 V or above SUPPLY-LOW, each with its hysteresis; the
beginning of a condition sets its flag (R124, R134). -/
def Obligations.MeasurementsTaken : Prop :=
  (∀ (s : State) (x : Int), s.phase = .running →
       let hot : Bool := 85 < x ∨ s.health.hot = true ∧ 75 < x
       ∀ i, (i = .temperatureMeasurement x ∨ (i = .hotBegins x ∧ s.health.hot = false ∧ 85 < x) ∨
           (i = .hotEnds x ∧ s.health.hot = true ∧ x ≤ 75)) →
         ∃ t, exec i s = .next t ∧ s.portsIdle t ∧ s.sameButHealth t ∧ t.health.celsius = x ∧ t.health.hot = hot ∧
           t.health.flags = (if hot && !s.health.hot then s.health.flags ||| BitVec.twoPow 11 3 else s.health.flags)) ∧
  ∀ (s : State) (x : Nat), s.phase = .running → 160 ≤ x →
    let low : Bool := x < 190 ∨ s.health.supplyLow = true ∧ x < 195
    ∀ i, (i = .supplyMeasurement x ∨ (i = .supplyLowBegins x ∧ s.health.supplyLow = false ∧ x < 190) ∨
        (i = .supplyLowEnds x ∧ s.health.supplyLow = true ∧ 195 ≤ x)) →
      ∃ t, exec i s = .next t ∧ t.health.tenths = x ∧ t.health.supplyLow = low ∧
        (inSet t.health.flags 2 = (inSet s.health.flags 2 || (low && !s.health.supplyLow))) ∧
        (s.management.flight = none → s.portsIdle t ∧ s.sameButHealth t)

/-! ## The store and the trip freeze -/

/-- FREEZE-TRIP has its checks in order, and else a reserved slot and the values in force in flight; STORE is refused BUSY with
STORE-FAIL under SUPPLY-LOW, and else writes the mark INVALID and has the values in force in flight (R176, R184). -/
def Obligations.FreezeTripAndStoreJudged : Prop :=
  (∀ (s : State) (r : Request), s.admits r.port → r.args = [] → s.management.flight = none →
       s.management.pendingReset = none →
       let maintained := s.mode.effective = some .isolated ∨ s.mode.effective = some .standstill
       let tripped := ∃ c : Fin 8, s.channels[c].state = .firing ∨ s.channels[c].state = .lockout
       let refused (result : ResultCode) : Prop :=
         ∃ t, exec (.freezeTrip r) s = .next t ∧ s.refusal t r { request := 10, table := none, index := none, result }
       (s.nv.frozen = true → refused .refusedFrozen) ∧
       (s.nv.frozen = false →
         (¬maintained → refused .refusedMaintenance) ∧
         (maintained →
           (tripped → refused .refusedActive) ∧
           (¬tripped →
             (s.health.supplyLow = true → refused .busy) ∧
             (s.health.supplyLow = false → ∃ t, exec (.freezeTrip r) s = .next t ∧
               t = { s with
                 management := { s.management.done with
                   flight := some (.freeze { trip := s.tables.trip, votes := s.tables.point.map fun x => x.votes }) }
                 field := t.field, station := t.station } ∧
               Port.sameButArbiter
                 { s.port r.port with slots := (s.port r.port).slots ++ [.reserved r.id r.src] } (t.port r.port) ∧
               (s.port (otherPort r.port)).sameButArbiter (t.port (otherPort r.port))))))) ∧
  ∀ (s : State) (r : Request), s.admits r.port → r.args = [] → s.management.flight = none →
    s.management.pendingReset = none →
    (s.health.supplyLow = true → ∃ t, exec (.store r) s = .next t ∧ s.answers t r .busy [] ∧
      { s with
        management := s.management.refused { request := 11, table := none, index := none, result := .busy }
        }.sameButHealth t ∧
      t.health.flags = s.health.flags ||| BitVec.twoPow 11 10) ∧
    (s.health.supplyLow = false → ∃ t, exec (.store r) s = .next t ∧
      t = { s with
        nv := { s.nv with markValid := false }
        management := { s.management.done with flight := some (.store s.tables .accepted) }
        field := t.field, station := t.station } ∧
      Port.sameButArbiter
        { s.port r.port with slots := (s.port r.port).slots ++ [.reserved r.id r.src] } (t.port r.port) ∧
      (s.port (otherPort r.port)).sameButArbiter (t.port (otherPort r.port)))

/-- The end of a STORE or FREEZE-TRIP, with its answer in the reserved slot: DONE where it completes, and BUSY where the
beginning of SUPPLY-LOW abandons it, a STORE then with STORE-FAIL and the STORE record ABANDONED. A FREEZE-TRIP is abandoned
and so, at once, is a STORE that was just accepted; a STORE whose write 3 has begun goes on, and whether it has begun is a
free value (log 9) until it is known (R155, R176, R184, R185, R189). That an abandoned STORE leaves the image's contents as
they were is the model's choice, since R185 gives only INVALID (DESIGN CHOICE, log 22). -/
def Obligations.StoreAndFreezeEnd : Prop :=
  let filled (s t : State) (result : ResultCode) (p : PortId) : Prop :=
    Port.sameButArbiter
      { s.port p with
        slots := (s.port p).slots.map fun x => match x with
          | .reserved id src => .filled (s.response id src result []) false
          | y => y } (t.port p)
  (∀ s : State, s.phase = .running →
    (∀ v st, s.management.flight = some (.store v st) → ∃ t, exec .storeCompleted s = .next t ∧
      (∀ p, filled s t .done p) ∧ s.makes t [.store .stored] ∧
      t = { s with
        nv := { s.nv with image := v, markValid := true, checkAgrees := true }
        management := { s.management with flight := none }
        reports := t.reports, lost := t.lost, field := t.field, station := t.station }) ∧
    (∀ v, s.management.flight = some (.freeze v) → ∃ t, exec .freezeTripCompleted s = .next t ∧
      (∀ p, filled s t .done p) ∧
      t = { s with
        nv := { s.nv with tripArea := some v, frozen := true }
        management := { s.management with flight := none }, field := t.field, station := t.station })) ∧
  ∀ (s : State) (x : Nat) (i : Instr), i = .supplyMeasurement x ∨ i = .supplyLowBegins x →
    s.phase = .running → 160 ≤ x → x < 190 → s.health.supplyLow = false →
    let ended (request : Byte) : Management := { s.management with
      flight := none, lastRefusal := some { request, table := none, index := none, result := .busy } }
    let abandoned (t : State) : Prop :=
      (∀ p, filled s t .busy p) ∧ { s with management := ended 11 }.sameButHealth t ∧
      inSet t.health.flags 10 = true ∧ s.reported t (.store .abandoned) ∧
      (inSet s.health.flags 10 = false → s.reported t (.health 10 true))
    let goesOn (v : Tables) (t : State) : Prop :=
      s.portsIdle t ∧ { s with management := { s.management with flight := some (.store v .final) } }.sameButHealth t
    (∀ v, s.management.flight = some (.freeze v) → ∃ t, exec i s = .next t ∧ (∀ p, filled s t .busy p) ∧
      { s with nv := { s.nv with tripArea := none }, management := ended 10 }.sameButHealth t) ∧
    (∀ v, s.management.flight = some (.store v .accepted) → ∃ t, exec i s = .next t ∧ abandoned t) ∧
    (∀ v, s.management.flight = some (.store v .writing) → ∃ t, exec i s = .next t ∧ (abandoned t ∨ goesOn v t)) ∧
    (∀ v, s.management.flight = some (.store v .final) → ∃ t, exec i s = .next t ∧ goesOn v t)

/-! ## The link side -/

/-- A failure of a received frame raises its own counter of its port by one, up to 65,535. Ports move from DOWN to TRAINING,
from TRAINING to UP, and to DOWN, which discards all that waits for the port and sets LINK-DOWN. A port that goes UP together
with a frame that no block acts on, offered toward it, ends the same in either order (R142, R143, R145, R146, R151, R155,
R161); that the two fall together while no idle step lies between them is the model's choice (DESIGN CHOICE, log 34). -/
def Obligations.FailuresCountedAndPortsMove : Prop :=
  (∀ (s : State) (p : PortId), s.receives p = true →
       exec (.crcFailure p) s = .next (s.modPort p fun q => { q with crc := min 65535 (q.crc + 1) }) ∧
       exec (.lengthFailure p) s = .next (s.modPort p fun q => { q with length := min 65535 (q.length + 1) }) ∧
       exec (.stallFailure p) s = .next (s.modPort p fun q => { q with stall := min 65535 (q.stall + 1) })) ∧
  ∀ (s : State) (p : PortId), s.phase = .running →
    ((s.port p).status = .down → ∃ t, exec (.lineSignallingFound p) s = .next t ∧ s.sameButPorts t ∧
      Port.sameButArbiter { s.port p with status := .training } (t.port p) ∧
      (s.port (otherPort p)).sameButArbiter (t.port (otherPort p))) ∧
    ((s.port p).status = .training → ∃ t, exec (.portUp p) s = .next t ∧ s.sameButPorts t ∧
      Port.sameButArbiter { s.port p with status := .up, justUp := true } (t.port p) ∧
      (s.port (otherPort p)).sameButArbiter (t.port (otherPort p)) ∧
      ∀ f : Frame, s.linkOk → s.receives (otherPort p) = true → s.noBlockActs f = true →
        ∃ offered both, exec (.otherFrame (otherPort p) f) s = .next offered ∧
          exec (.otherFrame (otherPort p) f) t = .next both ∧ exec (.portUp p) offered = .next both) ∧
    ((s.port p).status ≠ .down → ∃ t, exec (.portDown p) s = .next t ∧
      { s with management := t.management }.sameButHealth t ∧
      t.port p = { s.port p with status := .down, fifo := [], slots := [], forwarded := 0, tx := .free, justUp := false } ∧
      (s.port (otherPort p)).sameButArbiter (t.port (otherPort p)) ∧
      t.health.flags = s.health.flags ||| BitVec.twoPow 11 8 ∧
      t.management = { s.management with
        pendingReset := if (s.port p).slots.any Slot.isKey then s.management.pendingReset.map (fun _ => false)
          else s.management.pendingReset })

/-- The end of a transmission: a transit frame leaves its FIFO, a response its slot, the records of a PANEL-REPORT the
queue and its lost count the lost count; an own frame's end takes the forwarded count to 0 (R150, R151, R155, R159). -/
def Obligations.TransmissionsEnd : Prop :=
  ∀ s : State, s.phase = .running →
    (∀ p : PortId, (s.port p).tx = .transit → ∃ t, exec (.transitFrameSent p) s = .next t ∧ s.sameButPorts t ∧
      t.port p = { s.port p with fifo := (s.port p).fifo.tail, tx := .gap, justUp := false } ∧
      (s.port (otherPort p)).sameButArbiter (t.port (otherPort p))) ∧
    (∀ p : PortId, (s.port p).tx = .response → ∃ t, exec (.mgmtRspSent p) s = .next t ∧
      { s with management := t.management }.sameButPorts t ∧
      t.port p = { s.port p with slots := (s.port p).slots.tail, forwarded := 0, tx := .gap, justUp := false } ∧
      (s.port (otherPort p)).sameButArbiter (t.port (otherPort p)) ∧
      t.management = { s.management with
        pendingReset := if ((s.port p).slots.take 1).any Slot.isKey then s.management.pendingReset.map (fun _ => false)
          else s.management.pendingReset }) ∧
    (∀ n l, s.station.tx = .report n l → ∃ t, exec .panelReportSent s = .next t ∧
      { s with reports := s.reports.drop n, lost := s.lost - l }.sameButPorts t ∧
      t.station = { s.station with forwarded := 0, tx := .gap, justUp := false } ∧ s.field.sameButArbiter t.field)

/-- A transmitter that becomes free takes the frame that the table of R152 gives: the transit head while the forwarded
count is below 4, and else the own frame, which is the oldest response when it is FILLED and a PANEL-REPORT of up to
eight records otherwise (R151, R152, R155, R159). On a port that goes UP at the same instant as a frame is offered toward it
the first choice is the transit head, counted where an own frame waits, as it is with the frame first (R143, R161); how long
that instant lasts is the model's choice (DESIGN CHOICE, log 34). -/
def Obligations.ArbiterChooses : Prop :=
  (∀ (s : State) (p : PortId), s.phase = .running → (s.port p).status = .up → (s.port p).tx = .gap →
    let q := s.port p
    let own : Option Transmitter :=
      match q.slots.head? with
      | some (.filled _ _) => some .response
      | _ => if p = .station ∧ s.reports ≠ [] then some (.report (min 8 s.reports.length) s.lost) else none
    ∃ t, exec (.transmitterFree p) s = .next t ∧ s.sameButPorts t ∧
      (s.port (otherPort p)).sameButArbiter (t.port (otherPort p)) ∧
      (own = none → q.fifo = [] → t.port p = { q with tx := .free }) ∧
      (own = none → q.fifo ≠ [] → t.port p = { q with tx := .transit }) ∧
      ∀ x, own = some x →
        (q.fifo = [] → t.port p = { q with tx := x }) ∧
        (q.fifo ≠ [] → q.forwarded < 4 → t.port p = { q with tx := .transit, forwarded := q.forwarded + 1 }) ∧
        (q.fifo ≠ [] → 4 ≤ q.forwarded → t.port p = { q with tx := x })) ∧
  ∀ (s : State) (p : PortId) (i : Instr), s.receives (otherPort p) = true → s.forwards (otherPort p) i →
    (s.port p).status = .up → (s.port p).justUp = true →
    ∃ t, exec i s = .next t ∧ (t.port p).justUp = true ∧ (t.port p).tx = .transit ∧
      (t.port p).forwarded = if (t.port p).responseWaits = true ∨ p = .station ∧ t.reports ≠ [] then 1 else 0

/-! ## Resets -/

/-- A pattern reset starts when its conditions have all come about, and not before; both resets leave the volatile state at
its reset values, with the stored tables, the straps and the channels that the lockout records give, the values no rule gives
being the model's (logs 3, 17 and 32); a reset loads the valid image or the defaults, with the one-time trip area where the
frozen flag is set (R178, R182, R183, R187, R188). The loss of supply keeps the lockout records and the frozen flag, cuts off
a STORE whose write 3 has not begun, the image INVALID, completes one whose write 3 has begun, which of the two is a free
value until it is known (log 9), and leaves the area of a FREEZE-TRIP in flight unwritten (R176, R184 to R186). That it leaves
the volatile state at the reset values is the model's choice, since R186 says only that it is lost (DESIGN CHOICE, log 21),
and so is that a cut STORE leaves the image's contents as they were, since R185 gives only INVALID (DESIGN CHOICE, log 22). -/
def Obligations.ResetsAndLossOfSupply : Prop :=
  (∀ s : State,
       let afresh (t : State) (kind : ResetKind) (straps : Straps) : Prop :=
         t = { State.reset with
           pending := s.pending, freeDraws := s.freeDraws, phase := .inReset kind, straps, nv := s.nv
           tables := s.nv.loaded, channels := t.channels } ∧
         ∀ c : Fin 8, t.channels[c] = { State.reset.channels[c] with
           state := if s.nv.lockout[c] then .lockout else .disarmed }
       (s.phase = .running →
         let ready := s.management.pendingReset = some false ∧ s.management.flight = none ∧
           ∀ c : Fin 8, s.channels[c].state ≠ .firing
         (ready → ∃ t, exec .patternResetStart s = .next t ∧ afresh t .pattern s.straps) ∧
         (¬ready → ∃ t, exec .patternResetStart s = .next t ∧ s.sameButPorts t ∧ s.portsIdle t)) ∧
       (s.phase = .off → ∀ a b c rate, ∃ t, exec (.powerOnReset a b c rate) s = .next t ∧
         afresh t .powerOn { addrA := a, addrB := b, addrC := c, rate }) ∧
       (s.phase ≠ .off → ∃ t, exec .operationEnds s = .next t ∧ t.phase = .off ∧ t.nv.lockout = s.nv.lockout ∧
         t.nv.frozen = s.nv.frozen ∧
         t = { State.reset with
           pending := s.pending, freeDraws := t.freeDraws, phase := .off, straps := s.straps, nv := t.nv } ∧
         (let cut := t.nv = s.nv ∧ (s.storeOk → t.nv.imageValid = false)
          let completed (v : Tables) := t.nv = { s.nv with image := v, markValid := true, checkAgrees := true }
          (s.management.flight = none → t.nv = s.nv) ∧
          (∀ v, s.management.flight = some (.freeze v) → t.nv = { s.nv with tripArea := none }) ∧
          (∀ v, s.management.flight = some (.store v .accepted) → cut) ∧
          (∀ v, s.management.flight = some (.store v .writing) → cut ∨ completed v) ∧
          ∀ v, s.management.flight = some (.store v .final) → completed v) ∧
         ∀ c : Fin 8, t.tripOutput c = false)) ∧
  (∀ nv : Nonvolatile,
       let chosen := if nv.markValid = true ∧ nv.checkAgrees = true then nv.image else Tables.default
       (nv.frozen = false → nv.loaded = chosen) ∧
       ∀ a, nv.frozen = true → nv.tripArea = some a →
         nv.loaded = { chosen with trip := a.trip, point := nv.loaded.point } ∧
         ∀ p : Fin 256, nv.loaded.point[p] = { chosen.point[p] with votes := a.votes[p] }) ∧
  ∀ (s : State) (v : Nat), v < 160 →
    (∀ i, i = .supplyMeasurement v ∨ (i = .supplyLowBegins v ∧ s.health.supplyLow = false) → s.phase = .running →
      ∃ t, exec i s = .next t ∧ exec .operationEnds s = .next t) ∧
    (∀ kind x, s.phase = .inReset kind → ∃ t, exec (.endOfReset x v) s = .next t ∧ exec .operationEnds s = .next t)

/-- The end of a reset: the part runs with its clocks at 0, the first readings decide HOT and SUPPLY-LOW, the flags of
R140 and no others are SET, each channel in LOCKOUT has its window in ALERT, and under SNOOP the unit-status timer runs
(R13, R28, R61, R98, R124, R134, R140, R187). -/
def Obligations.ResetEnds : Prop :=
  ∀ (s : State) (kind : ResetKind) (x : Int) (v : Nat), s.restOk → s.phase = .inReset kind → 160 ≤ v →
    ∃ t, exec (.endOfReset x v) s = .next t ∧ t.phase = .running ∧ t.clock = 0 ∧ t.flash = 0 ∧ t.tables = s.tables ∧
      t.nv = s.nv ∧ t.points = s.points ∧ t.field = s.field ∧ t.station = s.station ∧ t.management = s.management ∧
      t.health.celsius = x ∧ t.health.tenths = v ∧ t.health.hot = decide (85 < x) ∧
      t.health.supplyLow = decide (v < 190) ∧
      (∀ n : Fin 11, t.flagSet n = true ↔
        (n.val = 0 ∧ kind = .powerOn) ∨ (n.val = 1 ∧ kind = .pattern) ∨ (n.val = 2 ∧ v < 190) ∨ (n.val = 3 ∧ 85 < x) ∨
        n.val = 8 ∨ (n.val = 9 ∧ s.nv.imageValid = false)) ∧
      t.health.feeder = t.unmaskedFlag ∧
      t.mode = { s.mode with
        unitTimer := if s.tables.panel.modeSource = .snoop then .running (s.tables.panel.unitTimeoutS * 1000)
          else s.mode.unitTimer } ∧
      (∀ c : Fin 8, t.channels[c].state = if s.nv.lockout[c] then .lockout else .disarmed) ∧
      (∀ (c : Fin 8) (w : Fin 96), s.nv.lockout[c] = true → s.tables.trip[c].window = some w →
        t.windows[w].state = .alert ∧ Feeder.channel c ∈ t.windows[w].feeders) ∧
      (t.health.feeder = true → t.windows[s.tables.panel.healthWindow].state = .alert)
end

