-- ==== Sys2Proof/Laws/Basic.lean ====
section
/-! SUPPORT. Laws of indexed updates and of doing an operation for each of a list. -/

namespace Sys2Proof.Machine

theorem upd_get {α : Type} {n : Nat} (v : Vector α n) (i j : Fin n) (f : α → α) :
    (upd v i f)[j] = if i = j then f v[i] else v[j] := by
  show (v.set i.val (f v[i]) i.isLt)[j.val] = _
  rw [Vector.getElem_set]
  by_cases h : i = j
  · subst h; simp
  · have : i.val ≠ j.val := fun hv => h (Fin.ext hv)
    simp only [this, h, if_false]
    rfl

@[simp] theorem upd_self {α : Type} {n : Nat} (v : Vector α n) (i : Fin n) (f : α → α) : (upd v i f)[i] = f v[i] := by
  rw [upd_get, if_pos rfl]

theorem upd_ne {α : Type} {n : Nat} (v : Vector α n) {i j : Fin n} (f : α → α) (h : i ≠ j) : (upd v i f)[j] = v[j] := by
  rw [upd_get, if_neg h]

@[simp] theorem forEach_nil {α : Type} (f : α → State → State) (s : State) : forEach [] f s = s := rfl

@[simp] theorem forEach_cons {α : Type} (x : α) (xs : List α) (f : α → State → State) (s : State) :
    forEach (x :: xs) f s = forEach xs f (f x s) := rfl

theorem forEach_append {α : Type} (xs ys : List α) (f : α → State → State) (s : State) :
    forEach (xs ++ ys) f s = forEach ys f (forEach xs f s) := List.foldl_append

/-- What each turn keeps, the whole keeps. -/
theorem forEach_keeps {α : Type} {P : State → Prop} {f : α → State → State} :
    ∀ (xs : List α) (s : State), (∀ x ∈ xs, ∀ s, P s → P (f x s)) → P s → P (forEach xs f s)
  | [], _, _, h => h
  | x :: xs, s, hf, h =>
    forEach_keeps xs (f x s) (fun y hy => hf y (List.mem_cons_of_mem x hy)) (hf x List.mem_cons_self s h)

/-- What each turn leaves as it is, the whole leaves as it is. -/
theorem forEach_eq {α β : Type} {m : State → β} {f : α → State → State} (xs : List α) (s : State)
    (hf : ∀ x ∈ xs, ∀ s, m (f x s) = m s) : m (forEach xs f s) = m s :=
  forEach_keeps (P := fun t => m t = m s) xs s (fun x hx t h => (hf x hx t).trans h) rfl

theorem mem_ascending {n : Nat} (i : Fin n) : i ∈ ascending n := List.mem_finRange i

theorem index?_some {k n : Nat} {i : Fin k} (h : index? k n = some i) : i.val = n := by
  unfold index? at h
  split at h
  · injection h with h; rw [← h]
  · exact absurd h (by simp)

theorem index?_val {k : Nat} (i : Fin k) : index? k i.val = some i := by
  unfold index?
  rw [dif_pos i.isLt]

theorem index?_none {k n : Nat} : index? k n = none ↔ k ≤ n := by
  unfold index?
  split <;> simp <;> omega

end Sys2Proof.Machine
end

