-- ==== Sys2Proof/Laws/State.lean ====
section
/-! SUPPORT. Which fields each update of State leaves as they are: one lemma per field per update. -/

namespace Sys2Proof.Machine

/-! ## modWindow -/

@[simp] theorem modWindow_pending (s : State) (w : Fin 96) (f : Window → Window) : (s.modWindow w f).pending = s.pending := rfl
@[simp] theorem modWindow_freeDraws (s : State) (w : Fin 96) (f : Window → Window) : (s.modWindow w f).freeDraws = s.freeDraws := rfl
@[simp] theorem modWindow_phase (s : State) (w : Fin 96) (f : Window → Window) : (s.modWindow w f).phase = s.phase := rfl
@[simp] theorem modWindow_straps (s : State) (w : Fin 96) (f : Window → Window) : (s.modWindow w f).straps = s.straps := rfl
@[simp] theorem modWindow_clock (s : State) (w : Fin 96) (f : Window → Window) : (s.modWindow w f).clock = s.clock := rfl
@[simp] theorem modWindow_msPhase (s : State) (w : Fin 96) (f : Window → Window) : (s.modWindow w f).msPhase = s.msPhase := rfl
@[simp] theorem modWindow_flash (s : State) (w : Fin 96) (f : Window → Window) : (s.modWindow w f).flash = s.flash := rfl
@[simp] theorem modWindow_tables (s : State) (w : Fin 96) (f : Window → Window) : (s.modWindow w f).tables = s.tables := rfl
@[simp] theorem modWindow_nv (s : State) (w : Fin 96) (f : Window → Window) : (s.modWindow w f).nv = s.nv := rfl
@[simp] theorem modWindow_points (s : State) (w : Fin 96) (f : Window → Window) : (s.modWindow w f).points = s.points := rfl
@[simp] theorem modWindow_entries (s : State) (w : Fin 96) (f : Window → Window) : (s.modWindow w f).entries = s.entries := rfl
@[simp] theorem modWindow_scanners (s : State) (w : Fin 96) (f : Window → Window) : (s.modWindow w f).scanners = s.scanners := rfl
@[simp] theorem modWindow_inputs (s : State) (w : Fin 96) (f : Window → Window) : (s.modWindow w f).inputs = s.inputs := rfl
@[simp] theorem modWindow_mode (s : State) (w : Fin 96) (f : Window → Window) : (s.modWindow w f).mode = s.mode := rfl
@[simp] theorem modWindow_lampTest (s : State) (w : Fin 96) (f : Window → Window) : (s.modWindow w f).lampTest = s.lampTest := rfl
@[simp] theorem modWindow_horn (s : State) (w : Fin 96) (f : Window → Window) : (s.modWindow w f).horn = s.horn := rfl
@[simp] theorem modWindow_groups (s : State) (w : Fin 96) (f : Window → Window) : (s.modWindow w f).groups = s.groups := rfl
@[simp] theorem modWindow_channels (s : State) (w : Fin 96) (f : Window → Window) : (s.modWindow w f).channels = s.channels := rfl
@[simp] theorem modWindow_coils (s : State) (w : Fin 96) (f : Window → Window) : (s.modWindow w f).coils = s.coils := rfl
@[simp] theorem modWindow_lamps (s : State) (w : Fin 96) (f : Window → Window) : (s.modWindow w f).lamps = s.lamps := rfl
@[simp] theorem modWindow_health (s : State) (w : Fin 96) (f : Window → Window) : (s.modWindow w f).health = s.health := rfl
@[simp] theorem modWindow_selection (s : State) (w : Fin 96) (f : Window → Window) : (s.modWindow w f).selection = s.selection := rfl
@[simp] theorem modWindow_field (s : State) (w : Fin 96) (f : Window → Window) : (s.modWindow w f).field = s.field := rfl
@[simp] theorem modWindow_station (s : State) (w : Fin 96) (f : Window → Window) : (s.modWindow w f).station = s.station := rfl
@[simp] theorem modWindow_reports (s : State) (w : Fin 96) (f : Window → Window) : (s.modWindow w f).reports = s.reports := rfl
@[simp] theorem modWindow_lost (s : State) (w : Fin 96) (f : Window → Window) : (s.modWindow w f).lost = s.lost := rfl
@[simp] theorem modWindow_management (s : State) (w : Fin 96) (f : Window → Window) : (s.modWindow w f).management = s.management := rfl

/-! ## modGroup -/

@[simp] theorem modGroup_pending (s : State) (g : Fin 8) (f : FoGroup → FoGroup) : (s.modGroup g f).pending = s.pending := rfl
@[simp] theorem modGroup_freeDraws (s : State) (g : Fin 8) (f : FoGroup → FoGroup) : (s.modGroup g f).freeDraws = s.freeDraws := rfl
@[simp] theorem modGroup_phase (s : State) (g : Fin 8) (f : FoGroup → FoGroup) : (s.modGroup g f).phase = s.phase := rfl
@[simp] theorem modGroup_straps (s : State) (g : Fin 8) (f : FoGroup → FoGroup) : (s.modGroup g f).straps = s.straps := rfl
@[simp] theorem modGroup_clock (s : State) (g : Fin 8) (f : FoGroup → FoGroup) : (s.modGroup g f).clock = s.clock := rfl
@[simp] theorem modGroup_msPhase (s : State) (g : Fin 8) (f : FoGroup → FoGroup) : (s.modGroup g f).msPhase = s.msPhase := rfl
@[simp] theorem modGroup_flash (s : State) (g : Fin 8) (f : FoGroup → FoGroup) : (s.modGroup g f).flash = s.flash := rfl
@[simp] theorem modGroup_tables (s : State) (g : Fin 8) (f : FoGroup → FoGroup) : (s.modGroup g f).tables = s.tables := rfl
@[simp] theorem modGroup_nv (s : State) (g : Fin 8) (f : FoGroup → FoGroup) : (s.modGroup g f).nv = s.nv := rfl
@[simp] theorem modGroup_points (s : State) (g : Fin 8) (f : FoGroup → FoGroup) : (s.modGroup g f).points = s.points := rfl
@[simp] theorem modGroup_entries (s : State) (g : Fin 8) (f : FoGroup → FoGroup) : (s.modGroup g f).entries = s.entries := rfl
@[simp] theorem modGroup_scanners (s : State) (g : Fin 8) (f : FoGroup → FoGroup) : (s.modGroup g f).scanners = s.scanners := rfl
@[simp] theorem modGroup_inputs (s : State) (g : Fin 8) (f : FoGroup → FoGroup) : (s.modGroup g f).inputs = s.inputs := rfl
@[simp] theorem modGroup_mode (s : State) (g : Fin 8) (f : FoGroup → FoGroup) : (s.modGroup g f).mode = s.mode := rfl
@[simp] theorem modGroup_windows (s : State) (g : Fin 8) (f : FoGroup → FoGroup) : (s.modGroup g f).windows = s.windows := rfl
@[simp] theorem modGroup_lampTest (s : State) (g : Fin 8) (f : FoGroup → FoGroup) : (s.modGroup g f).lampTest = s.lampTest := rfl
@[simp] theorem modGroup_horn (s : State) (g : Fin 8) (f : FoGroup → FoGroup) : (s.modGroup g f).horn = s.horn := rfl
@[simp] theorem modGroup_channels (s : State) (g : Fin 8) (f : FoGroup → FoGroup) : (s.modGroup g f).channels = s.channels := rfl
@[simp] theorem modGroup_coils (s : State) (g : Fin 8) (f : FoGroup → FoGroup) : (s.modGroup g f).coils = s.coils := rfl
@[simp] theorem modGroup_lamps (s : State) (g : Fin 8) (f : FoGroup → FoGroup) : (s.modGroup g f).lamps = s.lamps := rfl
@[simp] theorem modGroup_health (s : State) (g : Fin 8) (f : FoGroup → FoGroup) : (s.modGroup g f).health = s.health := rfl
@[simp] theorem modGroup_selection (s : State) (g : Fin 8) (f : FoGroup → FoGroup) : (s.modGroup g f).selection = s.selection := rfl
@[simp] theorem modGroup_field (s : State) (g : Fin 8) (f : FoGroup → FoGroup) : (s.modGroup g f).field = s.field := rfl
@[simp] theorem modGroup_station (s : State) (g : Fin 8) (f : FoGroup → FoGroup) : (s.modGroup g f).station = s.station := rfl
@[simp] theorem modGroup_reports (s : State) (g : Fin 8) (f : FoGroup → FoGroup) : (s.modGroup g f).reports = s.reports := rfl
@[simp] theorem modGroup_lost (s : State) (g : Fin 8) (f : FoGroup → FoGroup) : (s.modGroup g f).lost = s.lost := rfl
@[simp] theorem modGroup_management (s : State) (g : Fin 8) (f : FoGroup → FoGroup) : (s.modGroup g f).management = s.management := rfl

/-! ## modChannel -/

@[simp] theorem modChannel_pending (s : State) (c : Fin 8) (f : Channel → Channel) : (s.modChannel c f).pending = s.pending := rfl
@[simp] theorem modChannel_freeDraws (s : State) (c : Fin 8) (f : Channel → Channel) : (s.modChannel c f).freeDraws = s.freeDraws := rfl
@[simp] theorem modChannel_phase (s : State) (c : Fin 8) (f : Channel → Channel) : (s.modChannel c f).phase = s.phase := rfl
@[simp] theorem modChannel_straps (s : State) (c : Fin 8) (f : Channel → Channel) : (s.modChannel c f).straps = s.straps := rfl
@[simp] theorem modChannel_clock (s : State) (c : Fin 8) (f : Channel → Channel) : (s.modChannel c f).clock = s.clock := rfl
@[simp] theorem modChannel_msPhase (s : State) (c : Fin 8) (f : Channel → Channel) : (s.modChannel c f).msPhase = s.msPhase := rfl
@[simp] theorem modChannel_flash (s : State) (c : Fin 8) (f : Channel → Channel) : (s.modChannel c f).flash = s.flash := rfl
@[simp] theorem modChannel_tables (s : State) (c : Fin 8) (f : Channel → Channel) : (s.modChannel c f).tables = s.tables := rfl
@[simp] theorem modChannel_nv (s : State) (c : Fin 8) (f : Channel → Channel) : (s.modChannel c f).nv = s.nv := rfl
@[simp] theorem modChannel_points (s : State) (c : Fin 8) (f : Channel → Channel) : (s.modChannel c f).points = s.points := rfl
@[simp] theorem modChannel_entries (s : State) (c : Fin 8) (f : Channel → Channel) : (s.modChannel c f).entries = s.entries := rfl
@[simp] theorem modChannel_scanners (s : State) (c : Fin 8) (f : Channel → Channel) : (s.modChannel c f).scanners = s.scanners := rfl
@[simp] theorem modChannel_inputs (s : State) (c : Fin 8) (f : Channel → Channel) : (s.modChannel c f).inputs = s.inputs := rfl
@[simp] theorem modChannel_mode (s : State) (c : Fin 8) (f : Channel → Channel) : (s.modChannel c f).mode = s.mode := rfl
@[simp] theorem modChannel_windows (s : State) (c : Fin 8) (f : Channel → Channel) : (s.modChannel c f).windows = s.windows := rfl
@[simp] theorem modChannel_lampTest (s : State) (c : Fin 8) (f : Channel → Channel) : (s.modChannel c f).lampTest = s.lampTest := rfl
@[simp] theorem modChannel_horn (s : State) (c : Fin 8) (f : Channel → Channel) : (s.modChannel c f).horn = s.horn := rfl
@[simp] theorem modChannel_groups (s : State) (c : Fin 8) (f : Channel → Channel) : (s.modChannel c f).groups = s.groups := rfl
@[simp] theorem modChannel_coils (s : State) (c : Fin 8) (f : Channel → Channel) : (s.modChannel c f).coils = s.coils := rfl
@[simp] theorem modChannel_lamps (s : State) (c : Fin 8) (f : Channel → Channel) : (s.modChannel c f).lamps = s.lamps := rfl
@[simp] theorem modChannel_health (s : State) (c : Fin 8) (f : Channel → Channel) : (s.modChannel c f).health = s.health := rfl
@[simp] theorem modChannel_selection (s : State) (c : Fin 8) (f : Channel → Channel) : (s.modChannel c f).selection = s.selection := rfl
@[simp] theorem modChannel_field (s : State) (c : Fin 8) (f : Channel → Channel) : (s.modChannel c f).field = s.field := rfl
@[simp] theorem modChannel_station (s : State) (c : Fin 8) (f : Channel → Channel) : (s.modChannel c f).station = s.station := rfl
@[simp] theorem modChannel_reports (s : State) (c : Fin 8) (f : Channel → Channel) : (s.modChannel c f).reports = s.reports := rfl
@[simp] theorem modChannel_lost (s : State) (c : Fin 8) (f : Channel → Channel) : (s.modChannel c f).lost = s.lost := rfl
@[simp] theorem modChannel_management (s : State) (c : Fin 8) (f : Channel → Channel) : (s.modChannel c f).management = s.management := rfl

/-! ## writeLockout -/

@[simp] theorem writeLockout_pending (s : State) (c : Fin 8) (b : Bool) : (s.writeLockout c b).pending = s.pending := rfl
@[simp] theorem writeLockout_freeDraws (s : State) (c : Fin 8) (b : Bool) : (s.writeLockout c b).freeDraws = s.freeDraws := rfl
@[simp] theorem writeLockout_phase (s : State) (c : Fin 8) (b : Bool) : (s.writeLockout c b).phase = s.phase := rfl
@[simp] theorem writeLockout_straps (s : State) (c : Fin 8) (b : Bool) : (s.writeLockout c b).straps = s.straps := rfl
@[simp] theorem writeLockout_clock (s : State) (c : Fin 8) (b : Bool) : (s.writeLockout c b).clock = s.clock := rfl
@[simp] theorem writeLockout_msPhase (s : State) (c : Fin 8) (b : Bool) : (s.writeLockout c b).msPhase = s.msPhase := rfl
@[simp] theorem writeLockout_flash (s : State) (c : Fin 8) (b : Bool) : (s.writeLockout c b).flash = s.flash := rfl
@[simp] theorem writeLockout_tables (s : State) (c : Fin 8) (b : Bool) : (s.writeLockout c b).tables = s.tables := rfl
@[simp] theorem writeLockout_points (s : State) (c : Fin 8) (b : Bool) : (s.writeLockout c b).points = s.points := rfl
@[simp] theorem writeLockout_entries (s : State) (c : Fin 8) (b : Bool) : (s.writeLockout c b).entries = s.entries := rfl
@[simp] theorem writeLockout_scanners (s : State) (c : Fin 8) (b : Bool) : (s.writeLockout c b).scanners = s.scanners := rfl
@[simp] theorem writeLockout_inputs (s : State) (c : Fin 8) (b : Bool) : (s.writeLockout c b).inputs = s.inputs := rfl
@[simp] theorem writeLockout_mode (s : State) (c : Fin 8) (b : Bool) : (s.writeLockout c b).mode = s.mode := rfl
@[simp] theorem writeLockout_windows (s : State) (c : Fin 8) (b : Bool) : (s.writeLockout c b).windows = s.windows := rfl
@[simp] theorem writeLockout_lampTest (s : State) (c : Fin 8) (b : Bool) : (s.writeLockout c b).lampTest = s.lampTest := rfl
@[simp] theorem writeLockout_horn (s : State) (c : Fin 8) (b : Bool) : (s.writeLockout c b).horn = s.horn := rfl
@[simp] theorem writeLockout_groups (s : State) (c : Fin 8) (b : Bool) : (s.writeLockout c b).groups = s.groups := rfl
@[simp] theorem writeLockout_channels (s : State) (c : Fin 8) (b : Bool) : (s.writeLockout c b).channels = s.channels := rfl
@[simp] theorem writeLockout_coils (s : State) (c : Fin 8) (b : Bool) : (s.writeLockout c b).coils = s.coils := rfl
@[simp] theorem writeLockout_lamps (s : State) (c : Fin 8) (b : Bool) : (s.writeLockout c b).lamps = s.lamps := rfl
@[simp] theorem writeLockout_health (s : State) (c : Fin 8) (b : Bool) : (s.writeLockout c b).health = s.health := rfl
@[simp] theorem writeLockout_selection (s : State) (c : Fin 8) (b : Bool) : (s.writeLockout c b).selection = s.selection := rfl
@[simp] theorem writeLockout_field (s : State) (c : Fin 8) (b : Bool) : (s.writeLockout c b).field = s.field := rfl
@[simp] theorem writeLockout_station (s : State) (c : Fin 8) (b : Bool) : (s.writeLockout c b).station = s.station := rfl
@[simp] theorem writeLockout_reports (s : State) (c : Fin 8) (b : Bool) : (s.writeLockout c b).reports = s.reports := rfl
@[simp] theorem writeLockout_lost (s : State) (c : Fin 8) (b : Bool) : (s.writeLockout c b).lost = s.lost := rfl
@[simp] theorem writeLockout_management (s : State) (c : Fin 8) (b : Bool) : (s.writeLockout c b).management = s.management := rfl

/-! ## modPoint -/

@[simp] theorem modPoint_pending (s : State) (p : Fin 256) (f : Point → Point) : (s.modPoint p f).pending = s.pending := rfl
@[simp] theorem modPoint_freeDraws (s : State) (p : Fin 256) (f : Point → Point) : (s.modPoint p f).freeDraws = s.freeDraws := rfl
@[simp] theorem modPoint_phase (s : State) (p : Fin 256) (f : Point → Point) : (s.modPoint p f).phase = s.phase := rfl
@[simp] theorem modPoint_straps (s : State) (p : Fin 256) (f : Point → Point) : (s.modPoint p f).straps = s.straps := rfl
@[simp] theorem modPoint_clock (s : State) (p : Fin 256) (f : Point → Point) : (s.modPoint p f).clock = s.clock := rfl
@[simp] theorem modPoint_msPhase (s : State) (p : Fin 256) (f : Point → Point) : (s.modPoint p f).msPhase = s.msPhase := rfl
@[simp] theorem modPoint_flash (s : State) (p : Fin 256) (f : Point → Point) : (s.modPoint p f).flash = s.flash := rfl
@[simp] theorem modPoint_tables (s : State) (p : Fin 256) (f : Point → Point) : (s.modPoint p f).tables = s.tables := rfl
@[simp] theorem modPoint_nv (s : State) (p : Fin 256) (f : Point → Point) : (s.modPoint p f).nv = s.nv := rfl
@[simp] theorem modPoint_entries (s : State) (p : Fin 256) (f : Point → Point) : (s.modPoint p f).entries = s.entries := rfl
@[simp] theorem modPoint_scanners (s : State) (p : Fin 256) (f : Point → Point) : (s.modPoint p f).scanners = s.scanners := rfl
@[simp] theorem modPoint_inputs (s : State) (p : Fin 256) (f : Point → Point) : (s.modPoint p f).inputs = s.inputs := rfl
@[simp] theorem modPoint_mode (s : State) (p : Fin 256) (f : Point → Point) : (s.modPoint p f).mode = s.mode := rfl
@[simp] theorem modPoint_windows (s : State) (p : Fin 256) (f : Point → Point) : (s.modPoint p f).windows = s.windows := rfl
@[simp] theorem modPoint_lampTest (s : State) (p : Fin 256) (f : Point → Point) : (s.modPoint p f).lampTest = s.lampTest := rfl
@[simp] theorem modPoint_horn (s : State) (p : Fin 256) (f : Point → Point) : (s.modPoint p f).horn = s.horn := rfl
@[simp] theorem modPoint_groups (s : State) (p : Fin 256) (f : Point → Point) : (s.modPoint p f).groups = s.groups := rfl
@[simp] theorem modPoint_channels (s : State) (p : Fin 256) (f : Point → Point) : (s.modPoint p f).channels = s.channels := rfl
@[simp] theorem modPoint_coils (s : State) (p : Fin 256) (f : Point → Point) : (s.modPoint p f).coils = s.coils := rfl
@[simp] theorem modPoint_lamps (s : State) (p : Fin 256) (f : Point → Point) : (s.modPoint p f).lamps = s.lamps := rfl
@[simp] theorem modPoint_health (s : State) (p : Fin 256) (f : Point → Point) : (s.modPoint p f).health = s.health := rfl
@[simp] theorem modPoint_selection (s : State) (p : Fin 256) (f : Point → Point) : (s.modPoint p f).selection = s.selection := rfl
@[simp] theorem modPoint_field (s : State) (p : Fin 256) (f : Point → Point) : (s.modPoint p f).field = s.field := rfl
@[simp] theorem modPoint_station (s : State) (p : Fin 256) (f : Point → Point) : (s.modPoint p f).station = s.station := rfl
@[simp] theorem modPoint_reports (s : State) (p : Fin 256) (f : Point → Point) : (s.modPoint p f).reports = s.reports := rfl
@[simp] theorem modPoint_lost (s : State) (p : Fin 256) (f : Point → Point) : (s.modPoint p f).lost = s.lost := rfl
@[simp] theorem modPoint_management (s : State) (p : Fin 256) (f : Point → Point) : (s.modPoint p f).management = s.management := rfl

/-! ## setService -/

@[simp] theorem setService_pending (s : State) (p : Fin 256) (v : Service) : (s.setService p v).pending = s.pending := rfl
@[simp] theorem setService_freeDraws (s : State) (p : Fin 256) (v : Service) : (s.setService p v).freeDraws = s.freeDraws := rfl
@[simp] theorem setService_phase (s : State) (p : Fin 256) (v : Service) : (s.setService p v).phase = s.phase := rfl
@[simp] theorem setService_straps (s : State) (p : Fin 256) (v : Service) : (s.setService p v).straps = s.straps := rfl
@[simp] theorem setService_clock (s : State) (p : Fin 256) (v : Service) : (s.setService p v).clock = s.clock := rfl
@[simp] theorem setService_msPhase (s : State) (p : Fin 256) (v : Service) : (s.setService p v).msPhase = s.msPhase := rfl
@[simp] theorem setService_flash (s : State) (p : Fin 256) (v : Service) : (s.setService p v).flash = s.flash := rfl
@[simp] theorem setService_nv (s : State) (p : Fin 256) (v : Service) : (s.setService p v).nv = s.nv := rfl
@[simp] theorem setService_points (s : State) (p : Fin 256) (v : Service) : (s.setService p v).points = s.points := rfl
@[simp] theorem setService_entries (s : State) (p : Fin 256) (v : Service) : (s.setService p v).entries = s.entries := rfl
@[simp] theorem setService_scanners (s : State) (p : Fin 256) (v : Service) : (s.setService p v).scanners = s.scanners := rfl
@[simp] theorem setService_inputs (s : State) (p : Fin 256) (v : Service) : (s.setService p v).inputs = s.inputs := rfl
@[simp] theorem setService_mode (s : State) (p : Fin 256) (v : Service) : (s.setService p v).mode = s.mode := rfl
@[simp] theorem setService_windows (s : State) (p : Fin 256) (v : Service) : (s.setService p v).windows = s.windows := rfl
@[simp] theorem setService_lampTest (s : State) (p : Fin 256) (v : Service) : (s.setService p v).lampTest = s.lampTest := rfl
@[simp] theorem setService_horn (s : State) (p : Fin 256) (v : Service) : (s.setService p v).horn = s.horn := rfl
@[simp] theorem setService_groups (s : State) (p : Fin 256) (v : Service) : (s.setService p v).groups = s.groups := rfl
@[simp] theorem setService_channels (s : State) (p : Fin 256) (v : Service) : (s.setService p v).channels = s.channels := rfl
@[simp] theorem setService_coils (s : State) (p : Fin 256) (v : Service) : (s.setService p v).coils = s.coils := rfl
@[simp] theorem setService_lamps (s : State) (p : Fin 256) (v : Service) : (s.setService p v).lamps = s.lamps := rfl
@[simp] theorem setService_health (s : State) (p : Fin 256) (v : Service) : (s.setService p v).health = s.health := rfl
@[simp] theorem setService_selection (s : State) (p : Fin 256) (v : Service) : (s.setService p v).selection = s.selection := rfl
@[simp] theorem setService_field (s : State) (p : Fin 256) (v : Service) : (s.setService p v).field = s.field := rfl
@[simp] theorem setService_station (s : State) (p : Fin 256) (v : Service) : (s.setService p v).station = s.station := rfl
@[simp] theorem setService_reports (s : State) (p : Fin 256) (v : Service) : (s.setService p v).reports = s.reports := rfl
@[simp] theorem setService_lost (s : State) (p : Fin 256) (v : Service) : (s.setService p v).lost = s.lost := rfl
@[simp] theorem setService_management (s : State) (p : Fin 256) (v : Service) : (s.setService p v).management = s.management := rfl

/-! ## setFlight -/

@[simp] theorem setFlight_pending (s : State) (x : Option Flight) : (s.setFlight x).pending = s.pending := rfl
@[simp] theorem setFlight_freeDraws (s : State) (x : Option Flight) : (s.setFlight x).freeDraws = s.freeDraws := rfl
@[simp] theorem setFlight_phase (s : State) (x : Option Flight) : (s.setFlight x).phase = s.phase := rfl
@[simp] theorem setFlight_straps (s : State) (x : Option Flight) : (s.setFlight x).straps = s.straps := rfl
@[simp] theorem setFlight_clock (s : State) (x : Option Flight) : (s.setFlight x).clock = s.clock := rfl
@[simp] theorem setFlight_msPhase (s : State) (x : Option Flight) : (s.setFlight x).msPhase = s.msPhase := rfl
@[simp] theorem setFlight_flash (s : State) (x : Option Flight) : (s.setFlight x).flash = s.flash := rfl
@[simp] theorem setFlight_tables (s : State) (x : Option Flight) : (s.setFlight x).tables = s.tables := rfl
@[simp] theorem setFlight_nv (s : State) (x : Option Flight) : (s.setFlight x).nv = s.nv := rfl
@[simp] theorem setFlight_points (s : State) (x : Option Flight) : (s.setFlight x).points = s.points := rfl
@[simp] theorem setFlight_entries (s : State) (x : Option Flight) : (s.setFlight x).entries = s.entries := rfl
@[simp] theorem setFlight_scanners (s : State) (x : Option Flight) : (s.setFlight x).scanners = s.scanners := rfl
@[simp] theorem setFlight_inputs (s : State) (x : Option Flight) : (s.setFlight x).inputs = s.inputs := rfl
@[simp] theorem setFlight_mode (s : State) (x : Option Flight) : (s.setFlight x).mode = s.mode := rfl
@[simp] theorem setFlight_windows (s : State) (x : Option Flight) : (s.setFlight x).windows = s.windows := rfl
@[simp] theorem setFlight_lampTest (s : State) (x : Option Flight) : (s.setFlight x).lampTest = s.lampTest := rfl
@[simp] theorem setFlight_horn (s : State) (x : Option Flight) : (s.setFlight x).horn = s.horn := rfl
@[simp] theorem setFlight_groups (s : State) (x : Option Flight) : (s.setFlight x).groups = s.groups := rfl
@[simp] theorem setFlight_channels (s : State) (x : Option Flight) : (s.setFlight x).channels = s.channels := rfl
@[simp] theorem setFlight_coils (s : State) (x : Option Flight) : (s.setFlight x).coils = s.coils := rfl
@[simp] theorem setFlight_lamps (s : State) (x : Option Flight) : (s.setFlight x).lamps = s.lamps := rfl
@[simp] theorem setFlight_health (s : State) (x : Option Flight) : (s.setFlight x).health = s.health := rfl
@[simp] theorem setFlight_selection (s : State) (x : Option Flight) : (s.setFlight x).selection = s.selection := rfl
@[simp] theorem setFlight_field (s : State) (x : Option Flight) : (s.setFlight x).field = s.field := rfl
@[simp] theorem setFlight_station (s : State) (x : Option Flight) : (s.setFlight x).station = s.station := rfl
@[simp] theorem setFlight_reports (s : State) (x : Option Flight) : (s.setFlight x).reports = s.reports := rfl
@[simp] theorem setFlight_lost (s : State) (x : Option Flight) : (s.setFlight x).lost = s.lost := rfl

/-! ## noteRefusal -/

@[simp] theorem noteRefusal_pending (s : State) (x : LastRefusal) : (s.noteRefusal x).pending = s.pending := rfl
@[simp] theorem noteRefusal_freeDraws (s : State) (x : LastRefusal) : (s.noteRefusal x).freeDraws = s.freeDraws := rfl
@[simp] theorem noteRefusal_phase (s : State) (x : LastRefusal) : (s.noteRefusal x).phase = s.phase := rfl
@[simp] theorem noteRefusal_straps (s : State) (x : LastRefusal) : (s.noteRefusal x).straps = s.straps := rfl
@[simp] theorem noteRefusal_clock (s : State) (x : LastRefusal) : (s.noteRefusal x).clock = s.clock := rfl
@[simp] theorem noteRefusal_msPhase (s : State) (x : LastRefusal) : (s.noteRefusal x).msPhase = s.msPhase := rfl
@[simp] theorem noteRefusal_flash (s : State) (x : LastRefusal) : (s.noteRefusal x).flash = s.flash := rfl
@[simp] theorem noteRefusal_tables (s : State) (x : LastRefusal) : (s.noteRefusal x).tables = s.tables := rfl
@[simp] theorem noteRefusal_nv (s : State) (x : LastRefusal) : (s.noteRefusal x).nv = s.nv := rfl
@[simp] theorem noteRefusal_points (s : State) (x : LastRefusal) : (s.noteRefusal x).points = s.points := rfl
@[simp] theorem noteRefusal_entries (s : State) (x : LastRefusal) : (s.noteRefusal x).entries = s.entries := rfl
@[simp] theorem noteRefusal_scanners (s : State) (x : LastRefusal) : (s.noteRefusal x).scanners = s.scanners := rfl
@[simp] theorem noteRefusal_inputs (s : State) (x : LastRefusal) : (s.noteRefusal x).inputs = s.inputs := rfl
@[simp] theorem noteRefusal_mode (s : State) (x : LastRefusal) : (s.noteRefusal x).mode = s.mode := rfl
@[simp] theorem noteRefusal_windows (s : State) (x : LastRefusal) : (s.noteRefusal x).windows = s.windows := rfl
@[simp] theorem noteRefusal_lampTest (s : State) (x : LastRefusal) : (s.noteRefusal x).lampTest = s.lampTest := rfl
@[simp] theorem noteRefusal_horn (s : State) (x : LastRefusal) : (s.noteRefusal x).horn = s.horn := rfl
@[simp] theorem noteRefusal_groups (s : State) (x : LastRefusal) : (s.noteRefusal x).groups = s.groups := rfl
@[simp] theorem noteRefusal_channels (s : State) (x : LastRefusal) : (s.noteRefusal x).channels = s.channels := rfl
@[simp] theorem noteRefusal_coils (s : State) (x : LastRefusal) : (s.noteRefusal x).coils = s.coils := rfl
@[simp] theorem noteRefusal_lamps (s : State) (x : LastRefusal) : (s.noteRefusal x).lamps = s.lamps := rfl
@[simp] theorem noteRefusal_health (s : State) (x : LastRefusal) : (s.noteRefusal x).health = s.health := rfl
@[simp] theorem noteRefusal_selection (s : State) (x : LastRefusal) : (s.noteRefusal x).selection = s.selection := rfl
@[simp] theorem noteRefusal_field (s : State) (x : LastRefusal) : (s.noteRefusal x).field = s.field := rfl
@[simp] theorem noteRefusal_station (s : State) (x : LastRefusal) : (s.noteRefusal x).station = s.station := rfl
@[simp] theorem noteRefusal_reports (s : State) (x : LastRefusal) : (s.noteRefusal x).reports = s.reports := rfl
@[simp] theorem noteRefusal_lost (s : State) (x : LastRefusal) : (s.noteRefusal x).lost = s.lost := rfl

/-! ## emit -/

@[simp] theorem emit_pending (s : State) (b : ReportBody) : (s.emit b).pending = s.pending := by
  unfold State.emit; split <;> rfl
@[simp] theorem emit_freeDraws (s : State) (b : ReportBody) : (s.emit b).freeDraws = s.freeDraws := by
  unfold State.emit; split <;> rfl
@[simp] theorem emit_phase (s : State) (b : ReportBody) : (s.emit b).phase = s.phase := by
  unfold State.emit; split <;> rfl
@[simp] theorem emit_straps (s : State) (b : ReportBody) : (s.emit b).straps = s.straps := by
  unfold State.emit; split <;> rfl
@[simp] theorem emit_clock (s : State) (b : ReportBody) : (s.emit b).clock = s.clock := by
  unfold State.emit; split <;> rfl
@[simp] theorem emit_msPhase (s : State) (b : ReportBody) : (s.emit b).msPhase = s.msPhase := by
  unfold State.emit; split <;> rfl
@[simp] theorem emit_flash (s : State) (b : ReportBody) : (s.emit b).flash = s.flash := by
  unfold State.emit; split <;> rfl
@[simp] theorem emit_tables (s : State) (b : ReportBody) : (s.emit b).tables = s.tables := by
  unfold State.emit; split <;> rfl
@[simp] theorem emit_nv (s : State) (b : ReportBody) : (s.emit b).nv = s.nv := by
  unfold State.emit; split <;> rfl
@[simp] theorem emit_points (s : State) (b : ReportBody) : (s.emit b).points = s.points := by
  unfold State.emit; split <;> rfl
@[simp] theorem emit_entries (s : State) (b : ReportBody) : (s.emit b).entries = s.entries := by
  unfold State.emit; split <;> rfl
@[simp] theorem emit_scanners (s : State) (b : ReportBody) : (s.emit b).scanners = s.scanners := by
  unfold State.emit; split <;> rfl
@[simp] theorem emit_inputs (s : State) (b : ReportBody) : (s.emit b).inputs = s.inputs := by
  unfold State.emit; split <;> rfl
@[simp] theorem emit_mode (s : State) (b : ReportBody) : (s.emit b).mode = s.mode := by
  unfold State.emit; split <;> rfl
@[simp] theorem emit_windows (s : State) (b : ReportBody) : (s.emit b).windows = s.windows := by
  unfold State.emit; split <;> rfl
@[simp] theorem emit_lampTest (s : State) (b : ReportBody) : (s.emit b).lampTest = s.lampTest := by
  unfold State.emit; split <;> rfl
@[simp] theorem emit_horn (s : State) (b : ReportBody) : (s.emit b).horn = s.horn := by
  unfold State.emit; split <;> rfl
@[simp] theorem emit_groups (s : State) (b : ReportBody) : (s.emit b).groups = s.groups := by
  unfold State.emit; split <;> rfl
@[simp] theorem emit_channels (s : State) (b : ReportBody) : (s.emit b).channels = s.channels := by
  unfold State.emit; split <;> rfl
@[simp] theorem emit_coils (s : State) (b : ReportBody) : (s.emit b).coils = s.coils := by
  unfold State.emit; split <;> rfl
@[simp] theorem emit_lamps (s : State) (b : ReportBody) : (s.emit b).lamps = s.lamps := by
  unfold State.emit; split <;> rfl
@[simp] theorem emit_health (s : State) (b : ReportBody) : (s.emit b).health = s.health := by
  unfold State.emit; split <;> rfl
@[simp] theorem emit_selection (s : State) (b : ReportBody) : (s.emit b).selection = s.selection := by
  unfold State.emit; split <;> rfl
@[simp] theorem emit_field (s : State) (b : ReportBody) : (s.emit b).field = s.field := by
  unfold State.emit; split <;> rfl
@[simp] theorem emit_station (s : State) (b : ReportBody) : (s.emit b).station = s.station := by
  unfold State.emit; split <;> rfl
@[simp] theorem emit_management (s : State) (b : ReportBody) : (s.emit b).management = s.management := by
  unfold State.emit; split <;> rfl

/-! ## The field that each update moves -/

@[simp] theorem modWindow_windows (s : State) (w : Fin 96) (f : Window → Window) :
    (s.modWindow w f).windows = upd s.windows w f := rfl
@[simp] theorem modGroup_groups (s : State) (g : Fin 8) (f : FoGroup → FoGroup) :
    (s.modGroup g f).groups = upd s.groups g f := rfl
@[simp] theorem modChannel_channels (s : State) (c : Fin 8) (f : Channel → Channel) :
    (s.modChannel c f).channels = upd s.channels c f := rfl
@[simp] theorem modPoint_points (s : State) (p : Fin 256) (f : Point → Point) :
    (s.modPoint p f).points = upd s.points p f := rfl
@[simp] theorem writeLockout_lockout (s : State) (c : Fin 8) (b : Bool) :
    (s.writeLockout c b).nv.lockout = upd s.nv.lockout c fun _ => b := rfl
@[simp] theorem setService_point (s : State) (p : Fin 256) (v : Service) :
    (s.setService p v).tables.point = upd s.tables.point p fun r => { r with service := v } := rfl

/-! ## Ports -/

@[simp] theorem modPort_port (s : State) (p : PortId) (f : Port → Port) : (s.modPort p f).port p = f (s.port p) := by
  cases p <;> rfl
@[simp] theorem modPort_other (s : State) (p : PortId) (f : Port → Port) :
    (s.modPort p f).port (otherPort p) = s.port (otherPort p) := by
  cases p <;> rfl
@[simp] theorem otherPort_otherPort (p : PortId) : otherPort (otherPort p) = p := by cases p <;> rfl
theorem otherPort_ne (p : PortId) : otherPort p ≠ p := by cases p <;> simp [otherPort]
/-- A port update moves nothing but the ports. -/
theorem modPort_frame (s : State) (p : PortId) (f : Port → Port) :
    s.modPort p f = { s with field := (s.modPort p f).field, station := (s.modPort p f).station } := by
  cases p <;> rfl
@[simp] theorem modPort_pending (s : State) (p : PortId) (f : Port → Port) : (s.modPort p f).pending = s.pending := by
  cases p <;> rfl
@[simp] theorem modPort_freeDraws (s : State) (p : PortId) (f : Port → Port) : (s.modPort p f).freeDraws = s.freeDraws := by
  cases p <;> rfl
@[simp] theorem modPort_phase (s : State) (p : PortId) (f : Port → Port) : (s.modPort p f).phase = s.phase := by
  cases p <;> rfl
@[simp] theorem modPort_straps (s : State) (p : PortId) (f : Port → Port) : (s.modPort p f).straps = s.straps := by
  cases p <;> rfl
@[simp] theorem modPort_clock (s : State) (p : PortId) (f : Port → Port) : (s.modPort p f).clock = s.clock := by
  cases p <;> rfl
@[simp] theorem modPort_msPhase (s : State) (p : PortId) (f : Port → Port) : (s.modPort p f).msPhase = s.msPhase := by
  cases p <;> rfl
@[simp] theorem modPort_flash (s : State) (p : PortId) (f : Port → Port) : (s.modPort p f).flash = s.flash := by
  cases p <;> rfl
@[simp] theorem modPort_tables (s : State) (p : PortId) (f : Port → Port) : (s.modPort p f).tables = s.tables := by
  cases p <;> rfl
@[simp] theorem modPort_nv (s : State) (p : PortId) (f : Port → Port) : (s.modPort p f).nv = s.nv := by
  cases p <;> rfl
@[simp] theorem modPort_points (s : State) (p : PortId) (f : Port → Port) : (s.modPort p f).points = s.points := by
  cases p <;> rfl
@[simp] theorem modPort_entries (s : State) (p : PortId) (f : Port → Port) : (s.modPort p f).entries = s.entries := by
  cases p <;> rfl
@[simp] theorem modPort_scanners (s : State) (p : PortId) (f : Port → Port) : (s.modPort p f).scanners = s.scanners := by
  cases p <;> rfl
@[simp] theorem modPort_inputs (s : State) (p : PortId) (f : Port → Port) : (s.modPort p f).inputs = s.inputs := by
  cases p <;> rfl
@[simp] theorem modPort_mode (s : State) (p : PortId) (f : Port → Port) : (s.modPort p f).mode = s.mode := by
  cases p <;> rfl
@[simp] theorem modPort_windows (s : State) (p : PortId) (f : Port → Port) : (s.modPort p f).windows = s.windows := by
  cases p <;> rfl
@[simp] theorem modPort_lampTest (s : State) (p : PortId) (f : Port → Port) : (s.modPort p f).lampTest = s.lampTest := by
  cases p <;> rfl
@[simp] theorem modPort_horn (s : State) (p : PortId) (f : Port → Port) : (s.modPort p f).horn = s.horn := by
  cases p <;> rfl
@[simp] theorem modPort_groups (s : State) (p : PortId) (f : Port → Port) : (s.modPort p f).groups = s.groups := by
  cases p <;> rfl
@[simp] theorem modPort_channels (s : State) (p : PortId) (f : Port → Port) : (s.modPort p f).channels = s.channels := by
  cases p <;> rfl
@[simp] theorem modPort_coils (s : State) (p : PortId) (f : Port → Port) : (s.modPort p f).coils = s.coils := by
  cases p <;> rfl
@[simp] theorem modPort_lamps (s : State) (p : PortId) (f : Port → Port) : (s.modPort p f).lamps = s.lamps := by
  cases p <;> rfl
@[simp] theorem modPort_health (s : State) (p : PortId) (f : Port → Port) : (s.modPort p f).health = s.health := by
  cases p <;> rfl
@[simp] theorem modPort_selection (s : State) (p : PortId) (f : Port → Port) : (s.modPort p f).selection = s.selection := by
  cases p <;> rfl
@[simp] theorem modPort_reports (s : State) (p : PortId) (f : Port → Port) : (s.modPort p f).reports = s.reports := by
  cases p <;> rfl
@[simp] theorem modPort_lost (s : State) (p : PortId) (f : Port → Port) : (s.modPort p f).lost = s.lost := by
  cases p <;> rfl
@[simp] theorem modPort_management (s : State) (p : PortId) (f : Port → Port) : (s.modPort p f).management = s.management := by
  cases p <;> rfl

end Sys2Proof.Machine
end

