-- ==== Sys2Proof/Laws/Links.lean ====
section
/-! SUPPORT. What the wrappers of a step do around a command's own effect: the arbiters at its end, the passage of a good
frame, and the admission of a request (R148 to R155). -/

namespace Sys2Proof.Machine

/-! ## The end of a step -/

theorem settlePort_view (before : State) (p : PortId) (after : State) :
    settlePort before p after =
        { after with field := (settlePort before p after).field, station := (settlePort before p after).station } ∧
      after.field.sameButArbiter (settlePort before p after).field ∧
      after.station.sameButArbiter (settlePort before p after).station := by
  cases p <;> exact ⟨rfl, rfl, rfl⟩

/-- The end of a step moves the two arbiters and nothing else. -/
theorem settle_view (before after : State) :
    settle before after =
        { after with field := (settle before after).field, station := (settle before after).station } ∧
      after.field.sameButArbiter (settle before after).field ∧
      after.station.sameButArbiter (settle before after).station := ⟨rfl, rfl, rfl⟩

theorem settle_eq (before after : State) :
    settle before after =
      { after with field := (settle before after).field, station := (settle before after).station } := rfl

theorem settle_field (before after : State) : after.field.sameButArbiter (settle before after).field := rfl

theorem settle_station (before after : State) : after.station.sameButArbiter (settle before after).station := rfl

theorem settle_port (before after : State) (p : PortId) :
    (after.port p).sameButArbiter ((settle before after).port p) := by
  cases p <;> rfl

theorem perform_running {s : State} {f : State → State} (h : s.phase = .running) :
    perform s f = .next (settle s (f s)) := by
  unfold perform; rw [if_pos h]

/-- Outside operation no event comes about. -/
theorem perform_resting {s : State} {f : State → State} (h : s.phase ≠ .running) : perform s f = .next s := by
  unfold perform; rw [if_neg h]

/-- An event whose effect leaves the ports alone moves at most the arbiters besides. -/
theorem perform_idle {s : State} {f : State → State} (h : s.phase = .running) (hp : ∀ q, (f s).port q = s.port q) :
    ∃ t, perform s f = .next t ∧ s.portsIdle t ∧ t = { f s with field := t.field, station := t.station } := by
  refine ⟨_, perform_running h, ⟨?_, ?_⟩, settle_eq _ _⟩
  · have := settle_field s (f s)
    rw [show (f s).field = s.field from hp .field] at this; exact this
  · have := settle_station s (f s)
    rw [show (f s).station = s.station from hp .station] at this; exact this

/-- An event whose conditions are not met does not come about. -/
theorem perform_passed {s : State} {f : State → State} (h : s.phase = .running) (e : f s = s) :
    ∃ t, perform s f = .next t ∧ s.portsIdle t ∧ s.sameButPorts t := by
  obtain ⟨t, h1, h2, h3⟩ := perform_idle (f := f) h fun q => by rw [e]
  exact ⟨t, h1, h2, by rw [h3, e]⟩

/-! ## Good frames -/

theorem receives_running {s : State} {p : PortId} (h : s.receives p = true) : s.phase = .running := by
  unfold State.receives at h
  simp only [Bool.and_eq_true, decide_eq_true_eq] at h
  exact h.1

theorem performFrame_received {s : State} {p : PortId} {f : Frame} {act : State → State} (h : s.receives p = true) :
    performFrame s p f act = .next (passFrame s p f act) := by
  unfold performFrame; rw [if_pos h]

theorem offer_view (s : State) (p : PortId) (f : Frame) :
    s.offer p f = { s with field := (s.offer p f).field, station := (s.offer p f).station } := by
  by_cases h : (s.port (otherPort p)).status = .down
  · have e : s.offer p f = s := if_pos h
    rw [e]
  · by_cases h' : (s.port (otherPort p)).fifo.length < Config.transitPlaces
    · have e : s.offer p f = s.modPort (otherPort p) fun q => { q with fifo := q.fifo ++ [f] } :=
        (if_neg h).trans (if_pos h')
      rw [e]; cases p <;> rfl
    · have e : s.offer p f = s.modPort p fun q => { q with overflow := countUp Config.portCounterMax q.overflow } :=
        (if_neg h).trans (if_neg h')
      rw [e]; cases p <;> rfl

/-- The offer of R149 at the two ports. -/
theorem offer_ports (s : State) (p : PortId) (f : Frame) :
    (s.offer p f).port (otherPort p) = s.joinedBy p f ∧ (s.offer p f).port p = s.countedAt p := by
  unfold State.joinedBy State.countedAt
  by_cases h : (s.port (otherPort p)).status = .down
  · have e : s.offer p f = s := if_pos h
    rw [if_pos (Or.inl h), if_neg (fun x => x.1 h), e]
    exact ⟨rfl, rfl⟩
  · by_cases h' : (s.port (otherPort p)).fifo.length < Config.transitPlaces
    · have e : s.offer p f = s.modPort (otherPort p) fun q => { q with fifo := q.fifo ++ [f] } :=
        (if_neg h).trans (if_pos h')
      rw [if_neg (fun x => x.elim h (Nat.not_le.mpr h')), if_neg (fun x => Nat.not_le.mpr h' x.2), e]
      cases p <;> exact ⟨rfl, rfl⟩
    · have e : s.offer p f = s.modPort p fun q => { q with overflow := countUp Config.portCounterMax q.overflow } :=
        (if_neg h).trans (if_neg h')
      have n := Nat.not_lt.mp h'
      rw [if_pos (Or.inr n), if_pos ⟨h, n⟩, e]
      cases p <;> exact ⟨rfl, rfl⟩

/-- A frame passes without a change of its own but at the ports. -/
theorem passFrame_view (s : State) (p : PortId) (f : Frame) (act : State → State) :
    passFrame s p f act =
      { act s with
        field := (passFrame s p f act).field, station := (passFrame s p f act).station
        freeDraws := (passFrame s p f act).freeDraws } := by
  have h := offer_view (act s) p f
  generalize hr : passFrame s p f act = r
  unfold passFrame at hr
  dsimp only at hr
  rw [h] at hr
  subst hr
  cases p <;> rfl

/-- The offer depends on the ports alone. -/
theorem joinedBy_congr {s t : State} {p : PortId} {f : Frame} (h : t.port (otherPort p) = s.port (otherPort p)) :
    t.joinedBy p f = s.joinedBy p f := by
  unfold State.joinedBy State.fullToward; rw [h]

theorem countedAt_congr {s t : State} {p : PortId} (h : t.port (otherPort p) = s.port (otherPort p))
    (h' : t.port p = s.port p) : t.countedAt p = s.countedAt p := by
  unfold State.countedAt State.fullToward; rw [h, h']

/-- A frame whose blocks leave the ports alone passes as R149 says. -/
theorem passFrame_passes (s : State) (p : PortId) (f : Frame) (act : State → State)
    (h : ∀ q, (act s).port q = s.port q) : s.passes (passFrame s p f act) p f := by
  have o := offer_ports (act s) p f
  rw [joinedBy_congr (h _), countedAt_congr (h _) (h _)] at o
  generalize hr : passFrame s p f act = r
  unfold passFrame at hr
  dsimp only at hr
  refine ⟨?_, ?_⟩
  · rw [← o.1, ← hr]; cases p <;> rfl
  · rw [← o.2, ← hr]; cases p <;> rfl

/-- A port that goes UP at this instant takes its first choice with the frame offered (R161). -/
theorem passFrame_firstChoice (s : State) (p : PortId) (f : Frame) (act : State → State)
    (h : ((act s).port (otherPort p)).justUp = true) :
    (passFrame s p f act).port (otherPort p) =
      (((act s).offer p f).port (otherPort p)).withArbiter (((act s).offer p f).firstChoice (otherPort p)) := by
  have j : (((act s).offer p f).port (otherPort p)).justUp = true := by
    rw [(offer_ports (act s) p f).1]; exact h
  unfold passFrame
  simp only [j, if_true, Bool.true_or]
  cases p <;> rfl

/-- The first choice takes the transit head where there is one, counted where an own frame waits (R143, R152, R161). -/
theorem firstChoice_transit {s : State} {p : PortId} (up : (s.port p).status = .up) (h : (s.port p).fifo ≠ []) :
    s.firstChoice p =
      (.transit, if (s.port p).responseWaits = true ∨ p = .station ∧ s.reports ≠ [] then 1 else 0) := by
  have n : (s.port p).fifo.length ≠ 0 := fun e => h (List.length_eq_zero_iff.mp e)
  have own : ((s.modPort p fun q => q.withArbiter (.free, 0)).ownFrame p).isSome =
      decide ((s.port p).responseWaits = true ∨ p = .station ∧ s.reports ≠ []) := by
    unfold State.ownFrame
    cases p <;> cases hw : (s.port _).responseWaits <;> cases hr : s.reports <;>
      simp_all [State.port, State.modPort, Port.withArbiter, Port.responseWaits, State.recordsInFrame]
  unfold State.firstChoice
  simp only [modPort_port, Port.withArbiter, up]
  generalize ho : (s.modPort p fun q => q.withArbiter (.free, 0)).ownFrame p = o at own
  unfold Port.withArbiter at ho
  rw [ho]
  cases o <;> simp_all [chooseNext, Config.forwardLimit]

/-- A step that takes a good frame, when the blocks leave the ports alone. -/
theorem performFrame_passes {s : State} {p : PortId} {f : Frame} {act : State → State} (r : s.receives p = true)
    (h : ∀ q, (act s).port q = s.port q) :
    ∃ t, performFrame s p f act = .next t ∧ s.passes t p f ∧
      t = { act s with field := t.field, station := t.station, freeDraws := t.freeDraws } :=
  ⟨_, performFrame_received r, passFrame_passes s p f act h, passFrame_view s p f act⟩

/-! ## Requests -/

theorem performRequest_received {s : State} {r : Request} {a : Asked} {judge : State → Judgement}
    (h : s.receives r.port = true) :
    performRequest s r a judge = .next (settle s (s.takeRequest r.port r.id r.src a judge)) := by
  unfold performRequest; rw [if_pos h]

theorem modPort_view (s : State) (p : PortId) (f : Port → Port) :
    s.modPort p f = { s with field := (s.modPort p f).field, station := (s.modPort p f).station } := by
  cases p <;> rfl

theorem fillNewest_view (s : State) (p : PortId) (id : BitVec 16) (src : Byte) (j : Judgement) :
    s.fillNewest p id src j =
      { s with field := (s.fillNewest p id src j).field, station := (s.fillNewest p id src j).station } := by
  unfold State.fillNewest
  split
  · rfl
  · exact modPort_view _ _ _

/-- The answer of an admitted request stands in the newest slot of its port. -/
theorem fillNewest_answers {s u : State} {r : Request} {result : ResultCode} {data : List Byte} {j : Judgement}
    (hu : ∀ q, u.port q = (s.asTaken r).port q) (hs : u.straps = s.straps) (hr : j.result = some result)
    (hd : (if result = .done then j.data else []) = data) (hf : j.fourth = false) :
    s.answers (u.fillNewest r.port r.id r.src j) r result data := by
  have hresp : u.response r.id r.src result data = s.response r.id r.src result data := by
    unfold State.response State.panelAddress; rw [hs]
  have h : u.fillNewest r.port r.id r.src j =
      u.modPort r.port fun q =>
        { q with slots := q.slots.dropLast ++ [.filled (s.response r.id r.src result data) false] } := by
    rw [← hresp]; unfold State.fillNewest; rw [hr, ← hd, hf]
  rw [h]
  refine ⟨?_, ?_⟩
  · rw [modPort_port, hu, modPort_port, List.dropLast_concat]
  · rw [modPort_other, hu, modPort_other]

/-- What the end of a step does not change, with its answer in place. -/
theorem settle_answers {s u : State} (b : State) {r : Request} {result : ResultCode} {data : List Byte}
    (h : s.answers u r result data) : s.answers (settle b u) r result data := by
  have h' : ∀ p (a c : Port), a.sameButArbiter c → c.sameButArbiter ((settle b u).port p) →
      a.sameButArbiter ((settle b u).port p) := by
    intro p a c x y
    show _ = _
    have y' : (settle b u).port p = _ := y
    rw [y', x]
  exact ⟨h' _ _ _ h.1 (settle_port b u _), h' _ _ _ h.2 (settle_port b u _)⟩

theorem admit_open {s : State} {r : Request} {a : Asked} {judge : State → Judgement}
    (h : (s.port r.port).slots.length < Config.responseSlots) :
    s.takeRequest r.port r.id r.src a judge =
      (let j := judge (s.asTaken r)
       if j.fourth then ((j.state.setProgress j.progress).noteResult a j.result).pendReset
       else (j.state.setProgress j.progress).noteResult a j.result).fillNewest r.port r.id r.src (judge (s.asTaken r)) := by
  unfold State.takeRequest; rw [if_neg (by omega)]

/-- A request that is refused changes what R164 says, and no more. -/
theorem performRequest_refused {s : State} {r : Request} {a : Asked} {judge : State → Judgement} {result : ResultCode}
    (h : s.admits r.port) (hj : judge (s.asTaken r) = refuse (s.asTaken r) result) (hd : result ≠ .done) :
    ∃ t, performRequest s r a judge = .next t ∧
      s.refusal t r { request := a.code, table := a.table, index := a.index, result } := by
  refine ⟨_, performRequest_received h.1, ?_⟩
  have e : s.takeRequest r.port r.id r.src a judge =
      (((s.asTaken r).setProgress 0).noteRefusal
        { request := a.code, table := a.table, index := a.index, result }).fillNewest
        r.port r.id r.src (refuse (s.asTaken r) result) := by
    rw [admit_open h.2, hj]
    cases result <;> first | exact absurd rfl hd | rfl
  rw [e]
  refine ⟨?_, settle_answers _ (fillNewest_answers (u := ((s.asTaken r).setProgress 0).noteRefusal
    { request := a.code, table := a.table, index := a.index, result }) (fun q => by cases q <;> rfl)
    (modPort_straps _ _ _) rfl (by rw [if_neg hd]) rfl)⟩
  rw [settle_eq, fillNewest_view]
  obtain ⟨p, _, _, _⟩ := r
  cases p <;> rfl

/-- A request that is answered DONE leaves what its judgement gives, with the key progress at 0. -/
theorem performRequest_done {s u : State} {r : Request} {a : Asked} {judge : State → Judgement} {data : List Byte}
    (h : s.admits r.port) (hj : judge (s.asTaken r) = answer u data) (hp : ∀ q, u.port q = (s.asTaken r).port q)
    (hs : u.straps = s.straps) :
    ∃ t, performRequest s r a judge = .next t ∧
      t = { u with management := u.management.done, field := t.field, station := t.station } ∧
      s.answers t r .done data := by
  refine ⟨_, performRequest_received h.1, ?_⟩
  have e : s.takeRequest r.port r.id r.src a judge = (u.setProgress 0).fillNewest r.port r.id r.src (answer u data) := by
    rw [admit_open h.2, hj]; rfl
  rw [e]
  refine ⟨?_, settle_answers _ (fillNewest_answers (u := u.setProgress 0) (fun q => by rw [← hp]; cases q <;> rfl)
    hs rfl rfl rfl)⟩
  rw [settle_eq, fillNewest_view]
  rfl

end Sys2Proof.Machine
end

