-- ==== Sys2Proof/Laws/Report.lean ====
section
/-! SUPPORT. What offering a record does, said once (R158). -/

namespace Sys2Proof.Machine

/-- A queue with a free place takes the record at its tail. -/
theorem emit_joins {s : State} (b : ReportBody) (h : s.reports.length < 32) :
    s.emit b = { s with reports := s.reports ++ [{ body := b, time := s.clock }] } := by
  unfold State.emit Config.reportPlaces; rw [if_pos h]

/-- A full queue drops the record and counts it. -/
theorem emit_drops {s : State} (b : ReportBody) (h : 32 ≤ s.reports.length) :
    s.emit b = { s with lost := min 255 (s.lost + 1) } := by
  unfold State.emit Config.reportPlaces countUp Config.byteCounterMax; rw [if_neg (by omega)]

/-- Records that wait keep their places. -/
theorem emit_prefix (s : State) (b : ReportBody) : s.reports <+: (s.emit b).reports := by
  unfold State.emit; split
  · exact ⟨_, rfl⟩
  · exact List.prefix_rfl

theorem emit_length_le {s : State} (b : ReportBody) (h : s.reports.length ≤ 32) : (s.emit b).reports.length ≤ 32 := by
  unfold State.emit Config.reportPlaces; split
  · simp; omega
  · exact h

/-- Offering a run of records moves the queue and the lost count alone. -/
theorem emits_view (l : List ReportBody) (s : State) :
    l.foldl State.emit s = { s with reports := (l.foldl State.emit s).reports, lost := (l.foldl State.emit s).lost } := by
  induction l generalizing s with
  | nil => rfl
  | cons b l ih =>
    rw [List.foldl_cons, ih (s.emit b)]
    unfold State.emit; split <;> rfl

theorem emits_port (l : List ReportBody) (s : State) (q : PortId) : (l.foldl State.emit s).port q = s.port q := by
  rw [emits_view]; cases q <;> rfl

/-- What a run of records makes of the queue depends on the queue, the lost count and the clock alone. -/
theorem emits_congr (l : List ReportBody) {s u : State} (h1 : u.reports = s.reports) (h2 : u.lost = s.lost)
    (h3 : u.clock = s.clock) :
    (l.foldl State.emit u).reports = (l.foldl State.emit s).reports ∧
      (l.foldl State.emit u).lost = (l.foldl State.emit s).lost := by
  induction l generalizing s u with
  | nil => exact ⟨h1, h2⟩
  | cons b l ih =>
    refine ih ?_ ?_ ?_ <;> (unfold State.emit; rw [h1]; split <;> simp_all)

theorem emits_prefix (l : List ReportBody) (s : State) : s.reports <+: (l.foldl State.emit s).reports := by
  induction l generalizing s with
  | nil => exact List.prefix_rfl
  | cons b l ih => exact (emit_prefix s b).trans (ih (s.emit b))

end Sys2Proof.Machine
end

