-- ==== Sys2Proof/Laws/Console.lean ====
section
/-! SUPPORT. The match of a console command, the words of its target, and what its step does around its effect (R103,
R105, R106). -/

namespace Sys2Proof.Machine

theorem byteOf_toNat (n : Nat) : (byteOf n).toNat = n % 256 := by
  unfold byteOf; simp

theorem panelAddress_lt (s : State) : s.panelAddress.toNat < 64 := by
  unfold State.panelAddress
  rw [byteOf_toNat]
  have a := s.straps.addrA.isLt; have b := s.straps.addrB.isLt; have c := s.straps.addrC.isLt
  omega

/-- The mask rule of R105 over addresses below 64. -/
theorem mask_agrees (d a m : Byte) (hd : d.toNat < 64) (ha : a.toNat < 64) :
    ((d ^^^ a) &&& m = 0) ↔ ∀ i < 6, inSet m i = true → inSet d i = inSet a i := by
  have high : ∀ x : Byte, x.toNat < 64 → ∀ i, 6 ≤ i → x.getLsbD i = false := fun x hx i hi =>
    Nat.testBit_lt_two_pow (lt_of_lt_of_le hx (Nat.pow_le_pow_right (by omega) hi : 2 ^ 6 ≤ 2 ^ i))
  have hd6 := high d hd
  have ha6 := high a ha
  unfold inSet
  constructor
  · intro h i _ hm
    have hb : ((d ^^^ a) &&& m).getLsbD i = (0 : Byte).getLsbD i := by rw [h]
    simp only [BitVec.getLsbD_and, BitVec.getLsbD_xor, hm, Bool.and_true] at hb
    have : (0 : Byte).getLsbD i = false := by simp
    rw [this] at hb
    cases h1 : d.getLsbD i <;> cases h2 : a.getLsbD i <;> simp_all
  · intro h
    apply BitVec.eq_of_getLsbD_eq
    intro i _
    have z : (0 : Byte).getLsbD i = false := by simp
    rw [z, BitVec.getLsbD_and, BitVec.getLsbD_xor]
    by_cases hi : i < 6
    · cases hm : m.getLsbD i
      · simp
      · rw [h i hi hm]; simp
    · rw [hd6 i (by omega), ha6 i (by omega)]; simp

/-- The part's match is the rule of R105. -/
theorem matchesPanel_iff (s : State) (d : Byte) :
    s.matchesPanel d = true ↔ matchRule s.tables.panel s.panelAddress d := by
  unfold State.matchesPanel matchRule
  by_cases h : d = 255
  · simp [h]
  · by_cases h' : 64 ≤ d.toNat
    · simp only [h, h', if_true, if_false]
      constructor
      · intro x; exact absurd x (by simp)
      · rintro (x | ⟨x, _⟩)
        · exact x.elim
        · omega
    · have lt : d.toNat < 64 := by omega
      simp only [h, h', if_false, false_or, lt, true_and]
      cases s.tables.panel.matchMode
      · simpa using mask_agrees d s.panelAddress s.tables.panel.matchMask lt (panelAddress_lt s)
      · simp
      · simp

theorem obeys_iff (s : State) (c : ConsoleFrame) :
    s.obeys c ↔ s.receives c.port = true ∧ (consoleTaken c && s.matchesPanel c.dest) = true := by
  unfold State.obeys consoleTaken
  rw [← matchesPanel_iff]
  simp [and_assoc]

/-- A command that the panel obeys has its effect, and its frame passes. -/
theorem performConsole_obeyed {s : State} {c : ConsoleFrame} {code : Byte} {act : State → State} (h : s.obeys c)
    (hp : ∀ q, (act s).port q = s.port q) :
    ∃ t, performConsole s c code act = .next t ∧ s.passes t c.port (consoleFrame c code) ∧
      t = { act s with field := t.field, station := t.station, freeDraws := t.freeDraws } := by
  obtain ⟨hr, hm⟩ := (obeys_iff s c).mp h
  have e : (if (consoleTaken c && s.matchesPanel c.dest) = true then act s else s) = act s := if_pos hm
  obtain ⟨t, h1, h2, h3⟩ := performFrame_passes (f := consoleFrame c code)
    (act := fun s => if (consoleTaken c && s.matchesPanel c.dest) = true then act s else s) hr
    (by intro q; rw [e]; exact hp q)
  dsimp only at h3
  rw [e] at h3
  exact ⟨t, h1, h2, h3⟩

/-- A command that it does not obey has none. -/
theorem performConsole_unobeyed {s : State} {c : ConsoleFrame} {code : Byte} {act : State → State}
    (hr : s.receives c.port = true) (h : (consoleTaken c && s.matchesPanel c.dest) = false) :
    ∃ t, performConsole s c code act = .next t ∧ s.passes t c.port (consoleFrame c code) ∧ s.sameButPorts t := by
  have e : (if (consoleTaken c && s.matchesPanel c.dest) = true then act s else s) = s := if_neg (by rw [h]; decide)
  obtain ⟨t, h1, h2, h3⟩ := performFrame_passes (f := consoleFrame c code)
    (act := fun s => if (consoleTaken c && s.matchesPanel c.dest) = true then act s else s) hr
    (by intro q; rw [e])
  dsimp only at h3
  rw [e] at h3
  exact ⟨t, h1, h2, h3⟩

/-- A command whose effect is an update `u` that leaves ports, queue and clock alone, with a run of records behind it. -/
theorem performConsole_makes {s : State} {c : ConsoleFrame} {code : Byte} {act : State → State} {u : State}
    {l : List ReportBody} (ho : s.obeys c) (e : act s = l.foldl State.emit u) (hu : ∀ q, u.port q = s.port q)
    (h1 : u.reports = s.reports) (h2 : u.lost = s.lost) (h3 : u.clock = s.clock) :
    ∃ t, performConsole s c code act = .next t ∧ s.passes t c.port (consoleFrame c code) ∧ u.sameButReports t ∧
      s.makes t l := by
  obtain ⟨t, a, b, d⟩ := performConsole_obeyed (code := code) (act := act) ho
    (by intro q; rw [e, emits_port, hu])
  rw [e] at d
  have hc := emits_congr l h1 h2 h3
  refine ⟨t, a, b, ?_, ?_, ?_⟩
  · rw [emits_view] at d
    rw [State.sameButReports, d]
  · rw [d]; exact hc.1
  · rw [d]; exact hc.2

/-! ## Targets -/

theorem target_of_named (x : Target) : Target.of x.kind x.index = some x := by
  cases x with
  | trip n => revert n; decide
  | group n => revert n; decide

/-- A frame's target fields name `x` when they carry its kind and index. -/
theorem target_of_iff (c : ConsoleFrame) (x : Target) :
    Target.of c.targetKind c.targetIndex = some x ↔ namesTarget c x := by
  constructor
  · intro h
    unfold Target.of at h
    have idx : ∀ (n : Fin 8), index? 8 c.targetIndex.toNat = some n → c.targetIndex = byteOf n.val := by
      intro n hn
      apply BitVec.eq_of_toNat_eq
      rw [byteOf_toNat, index?_some hn]; omega
    split at h
    · cases hn : index? 8 c.targetIndex.toNat <;> simp [hn] at h
      subst h; exact ⟨by assumption, idx _ hn⟩
    · split at h
      · cases hn : index? 8 c.targetIndex.toNat <;> simp [hn] at h
        subst h; exact ⟨by assumption, idx _ hn⟩
      · exact absurd h (by simp)
  · rintro ⟨h1, h2⟩
    rw [h1, h2]; exact target_of_named x

theorem targetDisabled_iff (s : State) (x : Target) : s.targetDisabled x = false ↔ s.selectable x := by
  cases x <;> simp [State.targetDisabled, State.channelDisabled, State.selectable, -not_or, Decidable.or_iff_not_imp_left]

end Sys2Proof.Machine
end

