-- ==== Sys2Proof/Laws/Frames.lean ====
section
/-! SUPPORT. What each shared operation leaves as it is. A view of State blanks the fields that a family of operations
moves; each operation leaves its view as it is, and `congrArg` gives every field that the view shows. -/

namespace Sys2Proof.Machine

/-! ## Views -/

/-- Everything but windows, horn and reports. -/
def State.offWindows (s : State) : State :=
  { s with windows := State.reset.windows, horn := .off, reports := [], lost := 0 }

/-- Everything but what the Health Monitor moves. -/
def State.offHealth (s : State) : State := { s.offWindows with health := State.reset.health }

/-- Everything but what the First-Out Unit moves. -/
def State.offGroups (s : State) : State := { s.offWindows with groups := State.reset.groups }

/-- Everything but what the Trip Unit moves. -/
def State.offTrips (s : State) : State :=
  { s.offWindows with
    channels := State.reset.channels, coils := State.reset.coils
    nv := { s.nv with lockout := State.reset.nv.lockout } }

/-- Everything but what a point's publication moves, its own state left as it is. -/
def State.offPublish (s : State) : State := { s.offTrips with groups := State.reset.groups }

/-- Everything but points and what they publish. -/
def State.offPoints (s : State) : State := { s.offPublish with points := State.reset.points }

/-- Everything but the tracker and what its changes publish. -/
def State.offMode (s : State) : State := { s.offPublish with mode := State.reset.mode }

/-- A finer view follows from a coarser one. -/
theorem offHealth_of {s t : State} (h : t.offWindows = s.offWindows) : t.offHealth = s.offHealth :=
  congrArg (fun x : State => { x with health := State.reset.health }) h

theorem offGroups_of {s t : State} (h : t.offWindows = s.offWindows) : t.offGroups = s.offGroups :=
  congrArg (fun x : State => { x with groups := State.reset.groups }) h

theorem offTrips_of {s t : State} (h : t.offWindows = s.offWindows) : t.offTrips = s.offTrips :=
  congrArg (fun x : State => { x with
    channels := State.reset.channels, coils := State.reset.coils
    nv := { x.nv with lockout := State.reset.nv.lockout } }) h

theorem offPublish_of_trips {s t : State} (h : t.offTrips = s.offTrips) : t.offPublish = s.offPublish :=
  congrArg (fun x : State => { x with groups := State.reset.groups }) h

theorem offPublish_of_groups {s t : State} (h : t.offGroups = s.offGroups) : t.offPublish = s.offPublish :=
  congrArg (fun x : State => { x with
    channels := State.reset.channels, coils := State.reset.coils
    nv := { x.nv with lockout := State.reset.nv.lockout } }) h

theorem offPoints_of {s t : State} (h : t.offPublish = s.offPublish) : t.offPoints = s.offPoints :=
  congrArg (fun x : State => { x with points := State.reset.points }) h

theorem offMode_of {s t : State} (h : t.offPublish = s.offPublish) : t.offMode = s.offMode :=
  congrArg (fun x : State => { x with mode := State.reset.mode }) h

/-! ## Windows and the horn -/

theorem emit_view (s : State) (b : ReportBody) : (s.emit b).offWindows = s.offWindows := by
  unfold State.emit; split <;> rfl

theorem hornCheck_view (s : State) : s.hornCheck.offWindows = s.offWindows := by
  unfold State.hornCheck; split <;> rfl

theorem activate_view (s : State) (w : Fin 96) (f : Feeder) : (s.activate w f).offWindows = s.offWindows := by
  unfold State.activate
  refine (emit_view _ _).trans ?_
  split <;> rfl

theorem deactivate_view (s : State) (w : Fin 96) (f : Feeder) : (s.deactivate w f).offWindows = s.offWindows := by
  unfold State.deactivate
  dsimp only
  split
  · exact (emit_view _ _).trans rfl
  · rfl

theorem ackWindow_view (s : State) (w : Fin 96) : (s.ackWindow w).offWindows = s.offWindows := by
  unfold State.ackWindow
  split
  · exact (hornCheck_view _).trans ((emit_view _ _).trans rfl)
  · rfl

theorem resetWindow_view (s : State) (w : Fin 96) : (s.resetWindow w).offWindows = s.offWindows := by
  unfold State.resetWindow
  split
  · exact (emit_view _ _).trans rfl
  · rfl

theorem activateAt_view (s : State) (w : Option (Fin 96)) (f : Feeder) :
    (s.activateAt w f).offWindows = s.offWindows := by
  cases w
  · rfl
  · exact activate_view _ _ _

theorem deactivateAt_view (s : State) (w : Option (Fin 96)) (f : Feeder) :
    (s.deactivateAt w f).offWindows = s.offWindows := by
  cases w
  · rfl
  · exact deactivate_view _ _ _

/-! ## Groups -/

theorem arrive_view (s : State) (g : Fin 8) (p : Fin 256) (st : Stamp) : (s.arrive g p st).offGroups = s.offGroups := by
  unfold State.arrive
  dsimp only
  split
  · rfl
  · split
    · rfl
    · split
      · exact (offGroups_of (emit_view _ _)).trans rfl
      · rfl
      · rfl

theorem arriveAt_view (s : State) (g : Option (Fin 8)) (p : Fin 256) (st : Stamp) :
    (s.arriveAt g p st).offGroups = s.offGroups := by
  cases g
  · rfl
  · exact arrive_view _ _ _ _

theorem freezeGroup_view (s : State) (g : Fin 8) : (s.freezeGroup g).offGroups = s.offGroups := by
  unfold State.freezeGroup
  refine (offGroups_of (emit_view _ _)).trans ?_
  split <;> rfl

theorem resetGroup_view (s : State) (g : Fin 8) : (s.resetGroup g).offGroups = s.offGroups := by
  unfold State.resetGroup
  refine (offGroups_of (emit_view _ _)).trans ?_
  cases s.groups[g].marker <;> rfl

/-! ## Trip channels -/

theorem fire_view (s : State) (c : Fin 8) : (s.fire c).offTrips = s.offTrips := by
  unfold State.fire
  exact (offTrips_of (activateAt_view _ _ _)).trans ((offTrips_of (emit_view _ _)).trans rfl)

theorem evaluate_view (s : State) (c : Fin 8) : (s.evaluate c).offTrips = s.offTrips := by
  unfold State.evaluate
  dsimp only
  split
  · rfl
  · rfl
  · split
    · rfl
    · split
      · exact fire_view _ _
      · exact (offTrips_of (emit_view _ _)).trans rfl

theorem setVoters_view (s : State) (c : Fin 8) (l : List Voter) : (s.setVoters c l).offTrips = s.offTrips := by
  unfold State.setVoters
  dsimp only
  split
  · exact (evaluate_view _ _).trans rfl
  · rfl

theorem takePermit_view (s : State) (c : Fin 8) : (s.takePermit c).offTrips = s.offTrips := by
  unfold State.takePermit
  dsimp only
  split
  · rfl
  · exact (evaluate_view _ _).trans rfl

theorem publishPermits_view (s : State) : s.publishPermits.offTrips = s.offTrips :=
  forEach_eq _ _ fun c _ s => takePermit_view s c

theorem bringUp_view (s : State) (c : Fin 8) : (s.bringUp c).offTrips = s.offTrips := by
  unfold State.bringUp
  exact (evaluate_view _ _).trans rfl

theorem endPulse_view (s : State) (c : Fin 8) : (s.endPulse c).offTrips = s.offTrips := by
  unfold State.endPulse
  exact (offTrips_of (emit_view _ _)).trans rfl

theorem acceptReset_view (s : State) (c : Fin 8) : (s.acceptReset c).offTrips = s.offTrips := by
  unfold State.acceptReset
  exact (offTrips_of (deactivateAt_view _ _ _)).trans ((offTrips_of (emit_view _ _)).trans rfl)

/-! ## Health -/

theorem evaluateFeeder_view (s : State) : s.evaluateFeeder.offHealth = s.offHealth := by
  unfold State.evaluateFeeder
  dsimp only
  split
  · exact (offHealth_of (activate_view _ _ _)).trans rfl
  · split
    · exact (offHealth_of (deactivate_view _ _ _)).trans rfl
    · rfl

theorem raiseFlag_view (s : State) (n : Fin 11) : (s.raiseFlag n).offHealth = s.offHealth := by
  unfold State.raiseFlag
  split
  · rfl
  · exact (offHealth_of (emit_view _ _)).trans rfl

theorem setFlag_view (s : State) (n : Fin 11) : (s.setFlag n).offHealth = s.offHealth := by
  unfold State.setFlag
  split
  · rfl
  · exact (evaluateFeeder_view _).trans (raiseFlag_view _ _)

theorem clearFlag_view (s : State) (n : Fin 11) : (s.clearFlag n).offHealth = s.offHealth := by
  unfold State.clearFlag
  split
  · exact (offHealth_of (emit_view _ _)).trans rfl
  · rfl

theorem clearAllHealth_view (s : State) :
    s.clearAllHealth.offHealth = { s.offHealth with lamps := State.reset.lamps } := by
  unfold State.clearAllHealth
  refine (evaluateFeeder_view _).trans ?_
  exact (forEach_eq (m := State.offHealth) _ _ fun n _ s => clearFlag_view s n).trans rfl

theorem evaluateLampFault_view (s : State) : s.evaluateLampFault.offHealth = s.offHealth := by
  unfold State.evaluateLampFault
  split
  · exact setFlag_view _ _
  · rfl

theorem takeTemperature_view (s : State) (t : Int) : (s.takeTemperature t).offHealth = s.offHealth := by
  unfold State.takeTemperature
  dsimp only
  generalize (if s.health.hot = true then decide (Config.hotEndsAt < t) else decide (Config.hotAbove < t)) = h
  split
  · exact (setFlag_view _ _).trans rfl
  · rfl

/-! ## Points -/

theorem publishVotes_view (s : State) (p : Fin 256) : (s.publishVotes p).offTrips = s.offTrips := by
  unfold State.publishVotes
  refine forEach_eq _ _ fun c _ t => ?_
  split <;> exact setVoters_view _ _ _

theorem publishFeeder_view (s : State) (p : Fin 256) (was : Bool) (st : Stamp) :
    (s.publishFeeder p was st).offGroups = s.offGroups := by
  unfold State.publishFeeder
  dsimp only
  split
  · exact (arriveAt_view _ _ _ _).trans (offGroups_of (activateAt_view _ _ _))
  · split
    · exact offGroups_of (deactivateAt_view _ _ _)
    · rfl

theorem publish_view (s : State) (p : Fin 256) (was : Bool) (st : Stamp) :
    ((s.publishFeeder p was st).publishVotes p).offPublish = s.offPublish :=
  (offPublish_of_trips (publishVotes_view _ _)).trans (offPublish_of_groups (publishFeeder_view _ _ _ _))

/-- A change of a point publishes behind its update. -/
theorem changePoint_view (s : State) (p : Fin 256) (f : Point → Point) :
    (s.changePoint p f).offPublish = (s.modPoint p f).offPublish := by
  unfold State.changePoint
  exact publish_view _ _ _ _

/-! ## The Mode Tracker -/

theorem publishInhibition_view (s : State) (old : ModeTracker) (p : Fin 256) :
    (s.publishInhibition old p).offGroups = s.offGroups := by
  unfold State.publishInhibition
  dsimp only
  split
  · rfl
  · split
    · exact offGroups_of (deactivateAt_view _ _ _)
    · exact (arriveAt_view _ _ _ _).trans (offGroups_of (activateAt_view _ _ _))

/-- The tracker takes its new state, and publishes behind it. -/
theorem takeMode_view (s : State) (t : ModeTracker) : (s.takeMode t).offPublish = { s with mode := t }.offPublish := by
  unfold State.takeMode
  dsimp only
  refine (forEach_eq (m := State.offPublish) _ _ fun p _ s =>
    offPublish_of_groups (publishInhibition_view s _ p)).trans ?_
  have h : ∀ x : State, (if t.permitMode = s.mode.permitMode then x else x.publishPermits).offPublish = x.offPublish := by
    intro x; split
    · rfl
    · exact offPublish_of_trips (publishPermits_view _)
  refine (h _).trans ?_
  split
  · rfl
  · exact offPublish_of_groups (offGroups_of (emit_view _ _))

theorem changeMode_view (s : State) (m : Option Mode) :
    (s.changeMode m).offPublish = { s with mode := s.mode.changeTo m s.tables.panel.modeHoldMs }.offPublish :=
  takeMode_view _ _

end Sys2Proof.Machine
end

