-- ==== Sys2Proof/Laws/Operations.lean ====
section
/-! SUPPORT. What a shared operation writes, said once: with the view lemmas of Laws/Frames.lean, which say what it leaves
alone, the whole of what it does. -/

namespace Sys2Proof.Machine

/-! ## Steps -/

/-- An event whose effect is an update `u` that leaves ports, queue and clock alone, with a run of records behind it. -/
theorem perform_makes {s : State} {f : State → State} {u : State} {l : List ReportBody} (h : s.phase = .running)
    (e : f s = l.foldl State.emit u) (hu : ∀ q, u.port q = s.port q) (h1 : u.reports = s.reports) (h2 : u.lost = s.lost)
    (h3 : u.clock = s.clock) :
    ∃ t, perform s f = .next t ∧ s.portsIdle t ∧
      t = { u with reports := t.reports, lost := t.lost, field := t.field, station := t.station } ∧ s.makes t l := by
  obtain ⟨t, a, b, d⟩ := perform_idle (f := f) h (by intro q; rw [e, emits_port, hu])
  rw [e] at d
  have hc := emits_congr l h1 h2 h3
  refine ⟨t, a, b, ?_, ?_, ?_⟩
  · rw [emits_view] at d
    rw [d]
  · rw [d]; exact hc.1
  · rw [d]; exact hc.2

/-- A request without arguments that has some is refused. -/
theorem noArgs_wrong (s : State) (a : List Byte) (j : Judgement) (h : a.length ≠ 0) :
    noArgs s a j = refuse s .badLength := by
  unfold noArgs
  split
  · exact absurd rfl h
  · rfl

/-! ## Records (R158) -/

/-- Offering a record reports it. -/
theorem emit_reported (s : State) (b : ReportBody) : s.reported (s.emit b) b := by
  unfold State.emit Config.reportPlaces countUp Config.byteCounterMax
  split
  · left; simp
  · right; simp only; unfold Config.reportPlaces Config.byteCounterMax; omega

/-- A record reported by a part stays reported as more are offered. -/
theorem reported_emit {s t : State} {b : ReportBody} (c : ReportBody) (h : s.reported t b) : s.reported (t.emit c) b := by
  have p := emit_prefix t c
  rcases h with h | ⟨h1, h2⟩
  · obtain ⟨l, e⟩ := p
    by_cases le : s.reports.length ≤ t.reports.length
    · left; rw [← e, List.drop_append_of_le_length le]; exact List.mem_append_left _ h
    · rw [List.drop_eq_nil_of_le (by omega)] at h; cases h
  · right
    refine ⟨by have := p.length_le; omega, ?_⟩
    unfold State.emit countUp Config.byteCounterMax at *; split
    · exact h2
    · simp only; omega
/-! ## Windows and the horn -/

@[simp] theorem hornCheck_windows (s : State) : s.hornCheck.windows = s.windows := by
  unfold State.hornCheck; split <;> rfl

theorem activate_windows (s : State) (w : Fin 96) (f : Feeder) :
    (s.activate w f).windows = upd s.windows w fun v => { v with state := .alert, feeders := joinFeeder f v.feeders } := by
  unfold State.activate; simp only [emit_windows]; split <;> rfl

theorem activate_horn (s : State) (w : Fin 96) (f : Feeder) :
    (s.activate w f).horn = if s.tables.window[w].horn then .sounding else s.horn := by
  unfold State.activate; simp only [emit_horn]; split <;> simp_all [State.modWindow]

/-- A deactivation at each window: the feeder leaves, and a HELD window left without one is cleared (R45). -/
theorem deactivate_window (s : State) (w : Fin 96) (f : Feeder) (v : Fin 96) :
    (s.deactivate w f).windows[v] =
      if w = v then
        { s.windows[v] with
          feeders := leaveFeeder f s.windows[v].feeders
          state :=
            if leaveFeeder f s.windows[v].feeders = [] ∧ s.windows[v].state = .held then clearedState s.tables.window[v]
            else s.windows[v].state }
      else s.windows[v] := by
  by_cases h : leaveFeeder f s.windows[w].feeders = [] ∧ s.windows[w].state = .held
  · have e : s.deactivate w f =
        ((s.modWindow w fun x => { x with feeders := leaveFeeder f x.feeders }).modWindow w fun x =>
          { x with state := clearedState s.tables.window[w] }).emit (.window w (clearedState s.tables.window[w])) := by
      unfold State.deactivate
      simp only [State.modWindow, upd_self]
      rw [if_pos (by simpa using h)]
    rw [e]
    simp only [emit_windows, State.modWindow, upd_get]
    split
    · subst_vars; rw [if_pos h, if_pos trivial]
    · rfl
  · have e : s.deactivate w f = s.modWindow w fun x => { x with feeders := leaveFeeder f x.feeders } := by
      unfold State.deactivate
      simp only [State.modWindow, upd_self]
      rw [if_neg (by simpa using h)]
    rw [e]
    simp only [State.modWindow, upd_get]
    split
    · subst_vars; simp only [h, if_false]
    · rfl

theorem deactivate_horn (s : State) (w : Fin 96) (f : Feeder) : (s.deactivate w f).horn = s.horn := by
  unfold State.deactivate; dsimp only; split
  · rw [emit_horn]; rfl
  · rfl

theorem resetWindow_windows (s : State) (w : Fin 96) :
    (s.resetWindow w).windows =
      if s.windows[w].state = .clearWait then upd s.windows w fun v => { v with state := .quiet } else s.windows := by
  unfold State.resetWindow; split
  · rw [emit_windows]; rfl
  · rfl

theorem ackWindow_windows (s : State) (w : Fin 96) :
    (s.ackWindow w).windows =
      if s.windows[w].state = .alert then
        upd s.windows w fun v =>
          { v with state := if s.windows[w].feeders = [] then clearedState s.tables.window[w] else .held }
      else s.windows := by
  unfold State.ackWindow; split
  · rw [hornCheck_windows, emit_windows]; rfl
  · rfl

/-! ## Health -/

theorem activate_health (s : State) (w : Fin 96) (f : Feeder) : (s.activate w f).health = s.health := by
  show (s.activate w f).offWindows.health = s.offWindows.health
  rw [activate_view]

theorem deactivate_health (s : State) (w : Fin 96) (f : Feeder) : (s.deactivate w f).health = s.health := by
  show (s.deactivate w f).offWindows.health = s.offWindows.health
  rw [deactivate_view]

theorem evaluateFeeder_health (s : State) : s.evaluateFeeder.health = { s.health with feeder := s.unmaskedFlag } := by
  unfold State.evaluateFeeder; dsimp only
  split
  · exact activate_health _ _ _
  · split
    · exact deactivate_health _ _ _
    · rfl

theorem raiseFlag_health (s : State) (n : Fin 11) :
    (s.raiseFlag n).health = { s.health with flags := s.health.flags ||| BitVec.twoPow 11 n.val } := by
  unfold State.raiseFlag
  split
  · rename_i h
    have : s.health.flags ||| BitVec.twoPow 11 n.val = s.health.flags := by
      apply BitVec.eq_of_getLsbD_eq
      intro i hi
      rw [BitVec.getLsbD_or, BitVec.getLsbD_twoPow]
      by_cases hn : n.val = i
      · subst hn
        have h' : s.health.flags.getLsbD n.val = true := h
        simp [h']
      · simp [hn]
    rw [this]
  · rw [emit_health]; rfl

theorem setFlag_flags (s : State) (n : Fin 11) :
    (s.setFlag n).health.flags = s.health.flags ||| BitVec.twoPow 11 n.val := by
  unfold State.setFlag
  split
  · rename_i h
    have := congrArg Health.flags (raiseFlag_health s n)
    unfold State.raiseFlag at this
    rw [if_pos h] at this
    exact this
  · rw [evaluateFeeder_health, raiseFlag_health]

/-! ## Groups -/

/-- A group reset is one update and its record (R74). -/
theorem resetGroup_eq (s : State) (g : Fin 8) : ∃ u : State,
    s.resetGroup g = [ReportBody.group g .armed].foldl State.emit u ∧
    u = { s with groups := upd s.groups g (fun _ => FoGroup.atReset), windows := u.windows } ∧
    ∀ w : Fin 96, u.windows[w] =
      if s.groups[g].marker = some w then
        { s.windows[w] with markers := s.windows[w].markers &&& ~~~BitVec.twoPow 8 g.val }
      else s.windows[w] := by
  unfold State.resetGroup
  cases hm : s.groups[g].marker with
  | none => exact ⟨_, rfl, rfl, by simp [State.modGroup]⟩
  | some v =>
    refine ⟨_, rfl, rfl, fun w => ?_⟩
    simp only [State.modGroup, State.modWindow]
    rw [upd_get]
    simp only [Option.some.injEq]
    split
    · subst_vars; rfl
    · rfl

/-! ## Arrivals (R65 to R72) -/

/-- Insertion stands before the first entry that the new one sorts before, or at the end (R68). -/
theorem insertInOrder_inserted (o : Stamp) (x : Entry) : ∀ l : List Entry, insertedIn o x l (insertInOrder o x l)
  | [] => ⟨[], [], rfl, rfl, by simp, by simp⟩
  | y :: rest => by
    unfold insertInOrder
    split
    · rename_i h
      exact ⟨[], y :: rest, rfl, rfl, by simp, by simpa using h⟩
    · rename_i h
      obtain ⟨a, b, e, e', ha, hb⟩ := insertInOrder_inserted o x rest
      refine ⟨y :: a, b, by rw [e]; rfl, by rw [e']; rfl, ?_, hb⟩
      intro z hz
      rcases List.mem_cons.mp hz with rfl | hz
      · simpa using h
      · exact ha z hz

/-- An entry that sorts before the last of a list is inserted ahead of it (R69). -/
theorem insertInOrder_dropLast (o : Stamp) (x last : Entry) (h : sortsBefore o x last = true) :
    ∀ l : List Entry, (insertInOrder o x (l ++ [last])).dropLast = insertInOrder o x l
  | [] => by simp [insertInOrder, h]
  | y :: rest => by
    have ih := insertInOrder_dropLast o x last h rest
    rw [List.cons_append, insertInOrder, insertInOrder]
    split
    · rw [show x :: y :: (rest ++ [last]) = (x :: y :: rest) ++ [last] from rfl, List.dropLast_concat]
    · rw [← ih]
      refine List.dropLast_cons_of_ne_nil ?_
      obtain ⟨a, b, _, e, _, _⟩ := insertInOrder_inserted o x (rest ++ [last])
      rw [e]; simp

/-- An arrival at each group: the one it names takes it by R65 to R72, and no other changes. -/
theorem arrive_takes (s : State) (g : Fin 8) (p : Fin 256) (stamp : Stamp) :
    FoGroup.takes s.tables.group[g] p stamp s.groups[g] (s.arrive g p stamp).groups[g] ∧
      ∀ h : Fin 8, h ≠ g → (s.arrive g p stamp).groups[h] = s.groups[h] := by
  have held : (s.groups[g].entries.any fun e => e.point = p) = true ↔ ∃ e ∈ s.groups[g].entries, e.point = p := by simp
  unfold State.arrive
  dsimp only
  cases he : s.tables.group[g].enable
  · exact ⟨⟨fun _ => rfl, fun h => by rw [he] at h; cases h⟩, fun _ _ => rfl⟩
  · simp only [Bool.not_true, Bool.false_eq_true, if_false]
    by_cases hh : (s.groups[g].entries.any fun e => e.point = p) = true
    · rw [if_pos hh]
      exact ⟨⟨fun _ => rfl, fun _ n => absurd (held.mp hh) n⟩, fun _ _ => rfl⟩
    · rw [if_neg hh]
      have other : ∀ (f : FoGroup → FoGroup) (h : Fin 8), h ≠ g → (s.modGroup g f).groups[h] = s.groups[h] :=
        fun f h n => upd_ne _ _ (Ne.symm n)
      have self : ∀ f : FoGroup → FoGroup, (s.modGroup g f).groups[g] = f s.groups[g] := fun f => upd_self _ _ _
      have fresh : ∀ g' : FoGroup, s.groups[g].placed s.tables.group[g].settleMs p stamp g' →
          FoGroup.takes s.tables.group[g] p stamp s.groups[g] g' := fun g' hp =>
        ⟨fun h => by
          rcases h with h | h
          · rw [he] at h; cases h
          · exact absurd (held.mpr h) hh, fun _ _ => hp⟩
      cases hs : s.groups[g].state with
      | armed =>
        simp only [emit_groups]
        refine ⟨fresh _ ⟨fun _ => by rw [self], fun o _ => ⟨fun h => ?_, fun h => ?_⟩⟩, other _⟩ <;>
          (rw [hs] at h; cases h)
      | settling =>
        simp only
        refine ⟨fresh _ ⟨fun h => (by rw [hs] at h; cases h), fun o ho => ⟨fun _ => ?_, fun h => (by rw [hs] at h; cases h)⟩⟩,
          other _⟩
        rw [self, show s.groups[g].origin.getD stamp = o by rw [ho]; rfl]
        unfold placeSettling Config.arrivalPlaces countUp Config.byteCounterMax
        refine ⟨fun lt => ⟨_, insertInOrder_inserted _ _ _, by rw [if_pos lt]⟩, fun last hl ge => ?_⟩
        rw [if_neg (by omega), hl]
        refine ⟨fun b => ⟨_, insertInOrder_inserted _ _ _, ?_⟩, fun b => by simp [b]⟩
        have split : s.groups[g].entries = s.groups[g].entries.dropLast ++ [last] := by
          exact (List.dropLast_append_getLast? last hl).symm
        simp only [b, if_true]
        have := insertInOrder_dropLast o { point := p, stamp, late := false } last b s.groups[g].entries.dropLast
        rw [← split] at this
        rw [this]
      | frozen =>
        simp only
        refine ⟨fresh _ ⟨fun h => (by rw [hs] at h; cases h), fun o ho => ⟨fun h => (by rw [hs] at h; cases h), fun _ => ?_⟩⟩,
          other _⟩
        rw [self, show s.groups[g].origin.getD stamp = o by rw [ho]; rfl]
        unfold placeFrozen Config.arrivalPlaces countUp Config.byteCounterMax
        refine ⟨fun ge => by dsimp only; rw [if_pos ge], fun first rest e lt => ?_⟩
        rw [if_neg (by omega), e]
        dsimp only
        cases rest with
        | nil =>
          refine ⟨fun b => ⟨fun h => ?_, fun _ => by simp [b]⟩, fun b => ⟨fun _ _ h => (by cases h), fun _ =>
            ⟨_, insertInOrder_inserted _ _ _, by simp [b, insertInOrder]⟩⟩⟩
          obtain ⟨_, _, h, _⟩ := h; cases h
        | cons second others =>
          cases hl : second.late
          · have no : ¬∃ e o', second :: others = e :: o' ∧ e.late = true := by
              rintro ⟨_, _, h, h'⟩; injection h with h _; subst h; rw [hl] at h'; cases h'
            refine ⟨fun b => ⟨fun h => absurd h no, fun _ => by simp [b, hl]⟩, fun b => ⟨fun _ _ h h' => ?_, fun _ =>
              ⟨_, insertInOrder_inserted _ _ _, by simp [b, hl]⟩⟩⟩
            injection h with h _; subst h; rw [hl] at h'; cases h'
          · have yes : ∃ e o', second :: others = e :: o' ∧ e.late = true := ⟨_, _, rfl, hl⟩
            refine ⟨fun b => ⟨fun _ => by simp [b, hl], fun h => absurd yes h⟩, fun b => ⟨fun _ _ h _ => ?_, fun h =>
              absurd yes h⟩⟩
            injection h with h h'; subst h; subst h'
            exact ⟨_, insertInOrder_inserted _ _ _, by simp [b, hl]⟩

/-! ## The supply (R134) -/

/-- A reading that begins SUPPLY-LOW sets its flag and then meets what is in flight. -/
theorem takeSupply_begins {s : State} {x : Nat} (ends : 160 ≤ x) (low : x < 190) (h : s.health.supplyLow = false) :
    s.takeSupply x =
      (({ s with health := { s.health with tenths := x, supplyLow := true } } : State).setFlag flagSupplyLow
        ).supplyLowMeetsFlight := by
  unfold State.takeSupply Config.operationEndsBelow
  rw [if_neg (by omega)]
  simp [h, Config.supplyLowBelow, low]

/-! ## The loss of supply and the resets (R186, R187) -/

/-- What the loss of supply leaves of the nonvolatile state. -/
theorem endOperation_nv (s : State) :
    s.endOperation.nv = match s.management.flight with
      | some (.store values stage) => if s.finalWriteBegun stage then s.nv.completeStore values else s.nv
      | some (.freeze _) => { s.nv with tripArea := none }
      | none => s.nv := rfl

theorem endOperation_restOk (s : State) : s.endOperation.restOk :=
  fun _ => ⟨rfl, fun _ => ⟨rfl, rfl⟩, fun h => absurd rfl h⟩

theorem takeReset_restOk (s : State) (kind : ResetKind) : (s.takeReset kind).restOk :=
  fun _ => ⟨rfl, fun h => (by cases h), fun _ => ⟨rfl, rfl⟩⟩

/-- The arbiters have nothing to move on a part whose operation has ended. -/
theorem settle_endOperation (before s : State) : settle before s.endOperation = s.endOperation := by
  have none : ∀ q : PortId, s.endOperation.ownFrame q = none := fun q => by cases q <;> rfl
  have still : ∀ q : PortId, settlePort before q s.endOperation = s.endOperation := fun q => by
    unfold settlePort; rw [none]; cases q <;> cases before.ownFrame _ <;> rfl
  unfold settle; rw [still, still]

/-! ## Points and the mode -/

theorem offPublish_points (s : State) : s.offPublish.points = s.points := rfl

theorem offPublish_mode (s : State) : s.offPublish.mode = s.mode := rfl

/-- A change of a point writes the point as its update says: publishing moves no point. -/
theorem changePoint_points (s : State) (p : Fin 256) (f : Point → Point) :
    (s.changePoint p f).points = upd s.points p f := by
  rw [← offPublish_points, changePoint_view, offPublish_points]
  rfl

theorem takeMode_mode (s : State) (m : ModeTracker) : (s.takeMode m).mode = m := by
  rw [← offPublish_mode, takeMode_view, offPublish_mode]

end Sys2Proof.Machine
end

