-- ==== Sys2Proof/Laws/Records.lean ====
section
/-! SUPPORT. Reading what was written: the parser of each body and record gives back the value whose bytes it is handed
(11.2, 11.4). -/

namespace Sys2Proof.Machine

/-! ## Numbers -/

theorem byteOf_lt {n : Nat} (h : n < 256) : (byteOf n).toNat = n := by rw [byteOf_toNat]; omega

theorem word16_bytes (n : Nat) (h : n < 65536) : word16 (byteOf (n / 256)) (byteOf n) = n := by
  unfold word16; rw [byteOf_toNat, byteOf_toNat]; omega

theorem word32_bytes (t : Stamp) :
    word32 (byteOf (t.toNat / 2 ^ 24)) (byteOf (t.toNat / 2 ^ 16)) (byteOf (t.toNat / 2 ^ 8)) (byteOf t.toNat) = t := by
  unfold word32
  apply BitVec.eq_of_toNat_eq
  rw [byteOf_toNat, byteOf_toNat, byteOf_toNat, byteOf_toNat, BitVec.toNat_ofNat]
  have := t.isLt
  omega

theorem within_some {lo hi n : Nat} (h : lo ≤ n) (h' : n ≤ hi) : within lo hi n = some n := if_pos ⟨h, h'⟩

theorem byteWithin_some {lo hi : Nat} {b : Byte} (h : lo ≤ b.toNat) (h' : b.toNat ≤ hi) : byteWithin lo hi b = some b :=
  if_pos ⟨h, h'⟩

theorem setField_some {n : Nat} (s : BitVec n) : setField n s.toNat = some s := by
  unfold setField; rw [if_pos s.isLt]; simp

theorem index?_byteOf {k : Nat} (i : Fin k) (h : k ≤ 256) : index? k (byteOf i.val).toNat = some i := by
  rw [byteOf_lt (by omega)]; exact index?_val i

theorem absentOr_some {k : Nat} (x : Option (Fin k)) (h : k ≤ 255) : absentOr k (indexField (x.map (·.val))) = some x := by
  cases x with
  | none => rfl
  | some i =>
    have ne : byteOf i.val ≠ 255 := fun e => by
      have := congrArg BitVec.toNat e
      rw [byteOf_lt (by omega)] at this
      have := i.isLt
      simp at *; omega
    simp only [absentOr, Option.map_some, indexField, ne, if_false, index?_byteOf i (by omega)]

theorem flag_some (b : Bool) : twoValued (flagByte b) false true = some b := by cases b <;> rfl

theorem MatchMode.ofCode_code (m : MatchMode) : MatchMode.ofCode m.code = some m := by cases m <;> rfl
theorem StaleRule.ofCode_code (r : StaleRule) : StaleRule.ofCode r.code = some r := by cases r <;> rfl
theorem Mode.ofCode_code (m : Mode) : Mode.ofCode (byteOf m.code) = some m := by cases m <;> rfl
theorem TableId.ofCode_code (x : TableId) : TableId.ofCode x.code = some x := by cases x <;> rfl

/-! ## Bodies -/

theorem parseScanState_bytes {b : ScanStateBody} (h : b.inRange) : parseScanState b.bytes = some b := by
  obtain ⟨h1, h2, h3, h4⟩ := h
  simp only [ScanStateBody.bytes, bytes32, List.cons_append, List.nil_append, parseScanState]
  rw [byteOf_lt (by omega), byteOf_lt (by omega), if_pos ⟨h1, h2, h3, h4⟩, word32_bytes]

theorem parseChanges_bytes (l : List ChangeRecord) (h : ∀ r ∈ l, r.offset < 65536) :
    parseChanges (l.flatMap ChangeRecord.bytes) = l := by
  induction l with
  | nil => rfl
  | cons r l ih =>
    simp only [List.flatMap_cons, ChangeRecord.bytes, bytes16, List.cons_append, List.nil_append, parseChanges]
    rw [word16_bytes _ (h r List.mem_cons_self)]
    exact congrArg _ (ih fun x hx => h x (List.mem_cons_of_mem _ hx))

theorem parseScanChange_bytes {b : ScanChangeBody} (h : b.inRange) : parseScanChange b.bytes = some b := by
  obtain ⟨h1, h2, h3, h4⟩ := h
  have hl : ∀ l : List ChangeRecord, (l.flatMap ChangeRecord.bytes).length = 4 * l.length := by
    intro l
    induction l with
    | nil => rfl
    | cons r l ih => rw [List.flatMap_cons, List.length_append, ih, List.length_cons]; simp [ChangeRecord.bytes, bytes16]; omega
  simp only [ScanChangeBody.bytes, bytes32, List.cons_append, List.nil_append, parseScanChange]
  rw [byteOf_lt (by omega), byteOf_lt (by omega), if_pos ⟨h1, h2, h3, hl _⟩, word32_bytes, parseChanges_bytes _ h4]

/-! ## Records -/

theorem parsePanel_bytes {now p : Panel} (h : p.inRange) :
    parsePanel now p.bytes =
      some (some { p with scheme := now.scheme, level := now.level, direction := now.direction }) := by
  obtain ⟨h1, h2, h3, h4, h5, h6, h7, h8, h9, h10, h11⟩ := h
  simp only [Panel.bytes, bytes16, List.cons_append, List.nil_append, parsePanel]
  rw [byteOf_lt (n := p.unitNumber) (by omega), within_some h1 h2, MatchMode.ofCode_code,
    byteWithin_some (Nat.zero_le _) h3, byteWithin_some (Nat.zero_le _) h4,
    byteWithin_some (Nat.zero_le _) (Nat.le_trans h5 h6), byteWithin_some h5 h6, index?_byteOf _ (by omega),
    word16_bytes _ (by have := p.healthMasks.isLt; omega), setField_some, index?_byteOf _ (by omega),
    word16_bytes _ (by omega), within_some (Nat.zero_le _) h7, byteOf_lt (n := p.unitTimeoutS) (by omega),
    within_some h8 h9, byteOf_lt (n := p.selectionAgeS) (by omega), within_some h10 h11]
  cases hm : p.modeSource <;> simp [ModeSource.code, twoValued, ← hm]

theorem parseSource_bytes {e : Option SourceEntry} (h : ∀ x, e = some x → x.inRange) :
    parseSource (sourceBytes e) = some (some e) := by
  cases e with
  | none => rfl
  | some x =>
    obtain ⟨h1, h2, h3, h4, h5, h6, h7⟩ := h x rfl
    have hs := x.scanner.isLt
    have ne : byteOf x.scanner.val ≠ 255 := fun e => by
      have := congrArg BitVec.toNat e
      rw [byteOf_lt (by omega)] at this
      simp at this; omega
    have h64 : x.firstChannel + x.count ≤ 64 := by split at h2 <;> omega
    simp only [sourceBytes, bytes16, List.cons_append, List.nil_append, parseSource, if_neg ne]
    rw [index?_byteOf _ (by omega), byteOf_lt (n := x.firstChannel) (by omega),
      within_some (Nat.zero_le _) (by omega : x.firstChannel ≤ 63), byteOf_lt (n := x.count) (by omega),
      within_some h1 (by omega), word16_bytes _ (by omega), within_some h4 h5, byteOf_lt (n := x.multiple) (by omega),
      within_some h6 h7, byteOf_lt (n := x.firstPoint) (by omega)]
    simp [h2, h3]

theorem parseVotes_bytes (l : List (Fin 8)) (h : l.length ≤ 4) (hn : l.Nodup) (rest : List Byte) :
    parseVotes l.length (l.map (fun c => byteOf c.val) ++ rest) = some l := by
  have hm : ∀ l : List (Fin 8), (l.map fun c => byteOf c.val).mapM (fun b => index? 8 b.toNat) = some l := by
    intro l
    induction l with
    | nil => rfl
    | cons c l ih => simp [List.mapM_cons, index?_byteOf, ih]
  simp [parseVotes, within_some (Nat.zero_le _) h, List.take_left' (List.length_map _), hm, hn]

theorem parsePoint_bytes {r : PointRecord} (h : r.inRange) (out : r.service = .out) :
    parsePoint r.bytes = some (some r) := by
  obtain ⟨h1, h2, h3, h4⟩ := h
  have slots : ∃ a b c d, r.votes.map (fun c => byteOf c.val) ++ List.replicate (4 - r.votes.length) (255 : Byte) =
      [a, b, c, d] := by
    have : (r.votes.map (fun c => byteOf c.val) ++ List.replicate (4 - r.votes.length) (255 : Byte)).length = 4 := by
      simp; omega
    match hl : r.votes.map (fun c => byteOf c.val) ++ List.replicate (4 - r.votes.length) (255 : Byte), this with
    | [a, b, c, d], _ => exact ⟨a, b, c, d, rfl⟩
  obtain ⟨a, b, c, d, hs⟩ := slots
  have hv := parseVotes_bytes r.votes h3 h4 (List.replicate (4 - r.votes.length) 255)
  rw [hs] at hv
  simp only [PointRecord.bytes, bytes16, hs, List.cons_append, List.nil_append, parsePoint]
  rw [out, word16_bytes _ (by omega), within_some (Nat.zero_le _) h1, word16_bytes _ (by omega),
    within_some (Nat.zero_le _) h2, absentOr_some _ (by omega), absentOr_some _ (by omega),
    byteOf_lt (n := r.inhibit.toNat) (by have := r.inhibit.isLt; omega), setField_some,
    byteOf_lt (n := r.votes.length) (by omega), hv]
  cases hp : r.polarity <;> simp [Service.code, Polarity.code, twoValued, ← hp, ← out]

/-! Written records: the bytes that a WRITE does not examine play no part. -/

theorem parsePanel_spelled {now p : Panel} {rec : List Byte} (h : p.inRange) (w : p.spelledBy rec) :
    parsePanel now rec = some (some { p with scheme := now.scheme, level := now.level, direction := now.direction }) := by
  rw [← parsePanel_bytes h]
  obtain ⟨hl, ht⟩ := w
  match rec, hl with
  | [_, _, _, _, _, _, _, _, _, _, _, _, _, _, _, _, _, _, _], _ =>
    simp only [Panel.bytes, bytes16, List.cons_append, List.nil_append, List.take_succ_cons, List.take_zero,
      List.cons.injEq, and_true] at ht
    obtain ⟨rfl, rfl, rfl, rfl, rfl, rfl, rfl, rfl, rfl, rfl, rfl, rfl, rfl, rfl, rfl, rfl⟩ := ht
    rfl

theorem parseSource_spelled {e : Option SourceEntry} {rec : List Byte} (h : ∀ x, e = some x → x.inRange)
    (w : sourceSpelledBy e rec) : parseSource rec = some (some e) := by
  cases e with
  | none =>
    obtain ⟨hl, hh, _⟩ := w
    match rec, hl with
    | [a, _, _, _, _, _, _], _ =>
      have ha : a = 255 := Option.some.inj (hh rfl)
      subst ha; rfl
  | some x => rw [w.2.2 (by simp)]; exact parseSource_bytes h

theorem parseVotes_take (n : Nat) (l l' : List Byte) (h : l.take n = l'.take n) : parseVotes n l = parseVotes n l' := by
  unfold parseVotes; rw [h]

theorem parsePoint_spelled {r : PointRecord} {rec : List Byte} (h : r.inRange) (out : r.service = .out)
    (w : r.spelledBy rec) : parsePoint rec = some (some r) := by
  rw [← parsePoint_bytes h out]
  obtain ⟨hl, ht⟩ := w
  have hb : r.bytes.length = 14 := by
    have := h.2.2.1
    simp [PointRecord.bytes, bytes16]; omega
  have hn : (byteOf r.votes.length).toNat = r.votes.length := byteOf_lt (by have := h.2.2.1; omega)
  have ninth : r.bytes[9]? = some (byteOf r.votes.length) := rfl
  match rec, hl, r.bytes, hb, ht, ninth with
  | [_, _, _, _, _, _, _, _, _, n, a, b, c, d], _, [_, _, _, _, _, _, _, _, _, n', a', b', c', d'], _, ht, e =>
    have e' : n' = byteOf r.votes.length := Option.some.inj e
    subst e'
    have key : 10 + r.votes.length = r.votes.length + 1 + 1 + 1 + 1 + 1 + 1 + 1 + 1 + 1 + 1 := by omega
    rw [key] at ht
    simp only [List.take_succ_cons, List.cons.injEq] at ht
    obtain ⟨rfl, rfl, rfl, rfl, rfl, rfl, rfl, rfl, rfl, rfl, hv⟩ := ht
    simp only [parsePoint]
    rw [hn, parseVotes_take _ _ _ hv]

theorem parseWindow_bytes (r : WindowRecord) : parseWindow r.bytes = some (some r) := by
  simp only [WindowRecord.bytes, parseWindow, flag_some, index?_byteOf _ (by omega : 8 ≤ 256)]
  cases hs : r.sequence <;> simp [SequenceType.code, twoValued, ← hs]

theorem parseColour_bytes (c : Colour) : parseColour c.bytes = some (some c) := rfl

theorem parseGroup_bytes {r : GroupRecord} (h : r.inRange) : parseGroup r.bytes = some (some r) := by
  simp only [GroupRecord.bytes, parseGroup, flag_some]
  rw [byteOf_lt (by have := h.2; omega), within_some h.1 h.2]
  rfl

theorem ModeSet_lt_of_no_isolated {s : ModeSet} (h : s.has .isolated = false) : s.toNat < 2 ^ 6 := by
  revert h; revert s; decide

theorem parseTrip_bytes {r : TripRecord} (h : r.inRange) : parseTrip r.bytes = some (some r) := by
  obtain ⟨h1, h2, h3, h4, h5, h6⟩ := h
  simp only [TripRecord.bytes, bytes16, List.cons_append, List.nil_append, parseTrip, flag_some]
  rw [byteOf_lt (n := r.required) (by omega), within_some h1 h2,
    byteOf_lt (n := r.permits.toNat) (by have := r.permits.isLt; omega), setField_some, StaleRule.ofCode_code,
    word16_bytes _ (by omega), within_some h4 h5, absentOr_some _ (by omega)]
  have lt : r.permits.toNat < 64 := ModeSet_lt_of_no_isolated h3
  simp [h6, within, lt]

theorem parseLampMask_bytes (m : Bool) : parseLampMask [flagByte m] = some (some m) := by cases m <;> rfl

end Sys2Proof.Machine
end

