-- ==== Sys2Proof/Tests/Slice0.lean ====
section
/-! SUPPORT. The part's own tests: ill-formed commands refused, worked sequences of the manual on small states, and for each
obligation a state and operands that meet all its hypotheses. -/

namespace Sys2Proof.Tests

open Sys2Proof.Machine

set_option Elab.async false

/-! ## Ill-formed commands -/

def long (n : Nat) : List Byte := List.replicate n 0
def frameWith (body : List Byte) : LinkFrame := ⟨.field, 0, 1, body⟩
def req (args : List Byte) : Request := ⟨.station, 1, 7, args⟩

theorem test_wf_link_bodies :
    (Instr.scanState (frameWith (long 241))).wf = false ∧ (Instr.scanChange (frameWith (long 241))).wf = false ∧
    (Instr.unitStatus (frameWith (long 241))).wf = false ∧ (Instr.timeMark (frameWith (long 241))).wf = false ∧
    (Instr.scanState (frameWith (long 240))).wf = true := by decide +kernel

theorem test_wf_other_frame :
    (Instr.otherFrame .field ⟨9, 0, 1, long 241⟩).wf = false ∧ (Instr.otherFrame .field ⟨4, 0, 1, []⟩).wf = false ∧
    (Instr.otherFrame .field ⟨5, 0, 1, [0, 8, 0, 0]⟩).wf = false ∧
    (Instr.otherFrame .field ⟨5, 0, 1, [0, 9, 0, 0]⟩).wf = true ∧ (Instr.otherFrame .field ⟨5, 0, 1, [0]⟩).wf = true ∧
    (Instr.otherFrame .field ⟨6, 0, 1, []⟩).wf = true := by decide +kernel

theorem test_wf_requests :
    (Instr.read (req (long 238))).wf = false ∧ (Instr.writePanel (req (long 237))).wf = false ∧
    (Instr.read (req (long 237))).wf = true ∧ (Instr.writePanel (req (long 236))).wf = true := by decide +kernel

theorem test_wf_row_contents :
    (Instr.writeReadOnlyTable (req [7, 0])).wf = false ∧ (Instr.writeReadOnlyTable (req [8, 0])).wf = true ∧
    (Instr.serviceIn (req [0, 0])).wf = false ∧ (Instr.serviceIn (req [0])).wf = false ∧
    (Instr.serviceOut (req [0, 1])).wf = false ∧ (Instr.serviceOut (req [0, 2])).wf = true ∧
    (Instr.badRequestCode .field 1 [0, 0, 16]).wf = false ∧ (Instr.badRequestCode .field 1 [0, 0, 17]).wf = true ∧
    (Instr.badRequestCode .field 1 (long 241)).wf = false := by decide +kernel

theorem test_wf_readings :
    (Instr.hotBegins 85).wf = false ∧ (Instr.hotBegins 128).wf = false ∧ (Instr.hotEnds 76).wf = false ∧
    (Instr.hotEnds (-129)).wf = false ∧ (Instr.supplyLowBegins 190).wf = false ∧ (Instr.supplyLowEnds 194).wf = false ∧
    (Instr.supplyLowEnds 65536).wf = false ∧ (Instr.endOfReset 20 159).wf = false ∧
    (Instr.endOfReset 20 65536).wf = false ∧ (Instr.endOfReset 128 240).wf = false ∧
    (Instr.temperatureMeasurement 128).wf = false ∧ (Instr.supplyMeasurement 65536).wf = false := by decide +kernel

/-! ## Small states -/

/-- A running part with both ports UP and nothing waiting. -/
def live : State :=
  { State.reset with
    phase := .running
    field := { Port.atReset with status := .up }
    station := { Port.atReset with status := .up } }

/-- One command's next state. -/
def after (s : State) (i : Instr) : State :=
  match exec i s with
  | .next t => t
  | _ => s

/-- P3 mapped from channel 3 of S1, ALARM-ON-SET, to window W5 and group G0, voting for T0. -/
def mapped : State :=
  { live with
    tables := { live.tables with
      source := upd live.tables.source 0 fun _ => some ⟨1, 0, 8, 0, 100, 2⟩
      point := upd live.tables.point 3 fun r =>
        { r with service := .inn, window := some 5, group := some 0, votes := [0] }
      group := upd live.tables.group 0 fun r => { r with enable := true } }
    channels := upd live.channels 0 fun v => { v with voters := [⟨3, .normal, .unseen⟩] } }

/-- SCAN-STATE of S1 with sequence number `q` and eight channels. -/
def scan (q states : Byte) : Instr := .scanState (frameWith [1, q, 0, 0, 0, 100, 8, states])

def console (kind index : Byte) : ConsoleFrame := ⟨.station, 0, 60, 2, kind, index⟩

/-- As `live`, with `f` at one channel. -/
def withChannel (f : Channel → Channel) : State := { live with channels := upd live.channels 0 f }

/-- A channel in LOCKOUT with its record SET and its window fed. -/
def lockedOut : State :=
  { withChannel fun v => { v with state := .lockout } with
    tables := { live.tables with trip := upd live.tables.trip 0 fun r => { r with window := some 7 } }
    nv := { live.nv with lockout := upd live.nv.lockout 0 fun _ => true }
    windows := upd live.windows 7 fun v => { v with state := .held, feeders := [.channel 0] } }

def selecting (s : State) (x : Target) : State := { s with selection := some ⟨2, x, .running 10000⟩ }

/-! ## Worked steps -/

/-- 1.4, 3.3: a scan that makes a mapped point alarm-raw takes its window to ALERT, sounds the horn and opens its group. -/
theorem test_scan_alarm :
    let t := after mapped (scan 10 8)
    t.points[(3 : Fin 256)] = ⟨some .set, .good, .abnormal, .stopped, some 100, some 100⟩ ∧
    t.windows[(5 : Fin 96)] = ⟨.alert, [.point 3], 0⟩ ∧ t.horn = .sounding ∧
    t.groups[(0 : Fin 8)].entries = [⟨3, 100, false⟩] ∧
    t.reports.map (·.body) = [.window 5 .alert, .group 0 .settling] ∧
    t.scanners[(1 : Fin 31)] = ⟨some 10, .tracking⟩ := by decide +kernel

/-- 1.3: the same number again changes nothing, and a gap takes uncovered quality to SUSPECT. -/
theorem test_scan_duplicate_and_gap :
    let t := after mapped (scan 10 8)
    (after t (scan 10 0)).points = t.points ∧
    (after t (.scanChange (frameWith [1, 12, 0, 0, 0, 0, 1, 0, 0, 0, 0]))).points[(3 : Fin 256)].quality = .suspect := by
  decide +kernel

/-- 2.4: a valid UNIT-STATUS under SNOOP makes the mode known. -/
theorem test_unit_status :
    (after live (.unitStatus (frameWith [1, 3]))).mode = ⟨some .generate, some .generate, none, .stopped, .running 5000⟩ := by
  decide +kernel

/-- 6.5: SELECT, and EXECUTE of a lockout below K. -/
theorem test_select_execute :
    let t := after (after lockedOut (.select (console 3 0))) (.execute (console 3 0))
    t.selection = none ∧ t.channels[(0 : Fin 8)].state = .disarmed ∧ t.nv.lockout[(0 : Fin 8)] = false ∧
    t.windows[(7 : Fin 96)] = ⟨.clearWait, [], 0⟩ ∧
    t.reports.map (·.body) = [.selection 2 .selected (.trip 0), .trip 0 .disarmed, .window 7 .clearWait] := by
  decide +kernel

/-- One key, its response sent, and the gap behind it. -/
def keyed (s : State) (k : Byte) : State :=
  after (after (after s (.resetKey (req [k]))) (.mgmtRspSent .station)) (.transmitterFree .station)

/-- R177, R178: the pattern makes a reset pending, which starts when the last key's response has left. -/
theorem test_reset_pattern :
    let t := after (keyed (keyed (keyed live 0) 1) 0) (.resetKey (req [1]))
    t.management.pendingReset = some true ∧ (after t .patternResetStart).phase = .running ∧
    (after (after t (.mgmtRspSent .station)) .patternResetStart).phase = .inReset .pattern := by
  decide +kernel

/-- 11.1: the check value of the nine bytes "123456789" with start 65,535. -/
theorem test_crc_check_value :
    crcOf [0x31, 0x32, 0x33, 0x34, 0x35, 0x36, 0x37, 0x38, 0x39] = 0x29B1 := by decide +kernel

/-- 11.4: every record of every table has the length its layout gives, and the status record has 43 bytes. -/
theorem test_record_lengths :
    (TableId.all.all fun x => (live.record x 0).length = x.recordBytes &&
      (live.record x (x.size - 1)).length = x.recordBytes) = true ∧ live.statusRecord.length = 43 := by
  decide +kernel

/-- R141 to R147: the symbols of a frame make its command. -/
theorem test_received_frame :
    (((frameOnLine ⟨4, 255, 9, [0, 0, 1, 0]⟩).foldl (fun s b => s.feedSymbol .field (.data b)) live).feedSymbol
      .field .idle).pending = [.timeMark ⟨.field, 255, 9, [0, 0, 1, 0]⟩] := by decide +kernel

/-- R187: a start-up of a factory part. -/
theorem test_factory_start :
    let t := after State.reset (.endOfReset 20 240)
    t.phase = .running ∧ t.health.flags = 0x301 ∧ t.windows[(95 : Fin 96)].state = .alert ∧ t.horn = .sounding ∧
    t.reports.map (·.body) = [.health 0 true, .health 8 true, .health 9 true, .window 95 .alert] ∧
    t.mode.unitTimer = .running 5000 := by decide +kernel

/-- R117: a SELECT taken before the age timer's end restarts it, and the end does not come about. -/
theorem test_select_before_expiry :
    let old : State := { lockedOut with selection := some ⟨2, .trip 0, .running 0⟩ }
    (after old .ageTimerExpiry).selection = none ∧
    (after (after old (.select (console 3 0))) .ageTimerExpiry).selection = some ⟨2, .trip 0, .running 10000⟩ := by
  decide +kernel

/-- R189: SUPPLY-LOW that begins at the instant of a STORE's acceptance abandons it, and the answer is BUSY. -/
theorem test_store_meets_supply_low :
    let t := after (after live (.store (req []))) (.supplyLowBegins 189)
    t.management.flight = none ∧ t.nv.markValid = false ∧ inSet t.health.flags 10 = true ∧
    t.management.lastRefusal = some ⟨11, none, none, .busy⟩ ∧
    t.station.slots = [.filled (live.response 7 1 .busy []) false] := by decide +kernel

/-- R161: PORT_UP and a frame toward the port end the same in either order with a record waiting; once an idle step has
passed, the own frame is out and the frame waits. -/
theorem test_port_up_and_frame :
    let s : State := { live with
      station := { live.station with status := .training }, reports := [⟨.store .stored, 0⟩] }
    let f : Instr := .otherFrame .field ⟨9, 0, 1, []⟩
    let both := after (after s (.portUp .station)) f
    both.station = (after (after s f) (.portUp .station)).station ∧ both.station.tx = .transit ∧
    both.station.forwarded = 1 ∧ (after s (.portUp .station)).station.tx = .report 1 0 ∧
    (after (after s (.portUp .station)).microsecond f).station.tx = .report 1 0 := by
  decide +kernel

/-- R146, R154: a READ of COUNTERS from the Station port counts its own slot there. -/
theorem test_counters_own_slot :
    (after live (.read (req [15, 1, 1]))).station.slots =
      [.filled (live.response 7 1 .done ([15, 1, 1] ++ [0, 0, 0, 0, 0, 0, 0, 0, 0, 0, 2, 0, 1, 0, 0])) false] := by
  decide +kernel

/-! ## States that meet the hypotheses of the statements -/

/-- An idle step on a running part within a millisecond, at its end, and on a part that does not run. -/
theorem witness_StepRunsFrontCommand :
    live.pending = [] ∧ live.phase = .running ∧ live.msPhase < 999 ∧
    { live with msPhase := 999 }.pending = [] ∧ 999 ≤ { live with msPhase := 999 }.msPhase ∧
    State.reset.pending = [] ∧ State.reset.phase ≠ .running := by decide +kernel

theorem obeys_of {s : State} {c : ConsoleFrame}
    (h : s.receives c.port = true ∧ (consoleTaken c && s.matchesPanel c.dest) = true) : s.obeys c :=
  (obeys_iff s c).mpr h

theorem selectable_of {s : State} {x : Target} (h : s.targetDisabled x = false) : s.selectable x :=
  (targetDisabled_iff s x).mp h

/-- A part with a scan frame at the front of its queue. -/
def acting : State := { mapped with pending := [scan 10 8] }

theorem acting_steps : ∃ t, step acting = .next t :=
  ⟨_, performFrame_received (by decide +kernel)⟩

/-- A part whose trip table was frozen. -/
def frozen : State := { mapped with nv := { live.nv with frozen := true, tripArea := some mapped.tables.tripArea } }

theorem mapped_source : ∀ i : Fin 24, i ≠ 0 → mapped.tables.source[i] = none := by decide +kernel

theorem mapped_sourceOk : mapped.tables.sourceOk := by
  have only : ∀ (i : Fin 24) a, mapped.tables.source[i] = some a → i = 0 ∧ a = ⟨1, 0, 8, 0, 100, 2⟩ := by
    intro i a h
    by_cases hi : i = 0
    · subst hi; exact ⟨rfl, (Option.some.inj h).symm⟩
    · exact absurd (mapped_source i hi ▸ h) (by simp)
  intro i j a b ha hb
  obtain ⟨hi, rfl⟩ := only i a ha
  obtain ⟨hj, rfl⟩ := only j b hb
  exact ⟨by unfold SourceEntry.inRange; decide, fun h => absurd (hi.trans hj.symm) h⟩

theorem default_sourceOk : Tables.default.sourceOk := by
  have none : ∀ i : Fin 24, Tables.default.source[i] = none := by decide +kernel
  intro i _ a _ ha
  exact absurd (none i ▸ ha) (by simp)

theorem witness_ConfigurationKept : (acting.sourceOk ∧ acting.frozenOk ∧ acting.storeOk) ∧ frozen.frozenOk :=
  ⟨⟨⟨mapped_sourceOk, default_sourceOk, fun _ _ h => (by cases h)⟩, ⟨fun h => (by cases h), fun _ h => (by cases h)⟩,
     fun _ _ h => (by cases h)⟩,
   ⟨fun _ => ⟨_, rfl, fun _ => rfl⟩, fun _ h => (by cases h)⟩⟩

/-- A part in reset, and one whose operation has ended. -/
def resting : State := { State.reset with pending := [.endOfReset 20 240] }
def ended : State := { State.reset with phase := .off, pending := [.powerOnReset 0 1 2 3] }

theorem witness_RestKept :
    (live.restOk ∧ ∃ t, step live = .next t) ∧ (resting.restOk ∧ ∃ t, step resting = .next t) ∧
    ended.restOk ∧ ∃ t, step ended = .next t :=
  ⟨⟨fun h => absurd rfl h, _, rfl⟩,
   ⟨fun _ => ⟨rfl, fun h => (by cases h), fun _ => ⟨rfl, rfl⟩⟩, _, rfl⟩,
   fun _ => ⟨rfl, fun _ => ⟨rfl, rfl⟩, fun h => absurd rfl h⟩, _, rfl⟩

theorem witness_PointsKept : acting.pointsOk := by
  intro p
  have h : acting.points[p] = Point.atReset := Vector.getElem_replicate _
  rw [h]
  exact ⟨fun _ => rfl, by decide, by decide, by decide, by decide⟩

theorem witness_TrackersKept :
    let s := { acting with selection := some ⟨15, .trip 0, .running 1⟩ }
    s.modeOk ∧ s.selectionOk ∧ s.managementOk := by
  refine ⟨⟨by decide +kernel, ?_, fun _ => rfl, fun _ => rfl⟩, ?_, by unfold State.managementOk; decide +kernel⟩
  · intro _ h; cases h
  · intro x h; injection h with h; subst h; decide

/-- A window in ALERT with the horn sounding. -/
def sounding : State :=
  { live with
    windows := upd live.windows 5 fun v => { v with state := .alert }, horn := .sounding
    pending := [.ack ⟨.station, 0, 60, 2, 2, 5⟩] }

theorem witness_WindowsKept : sounding.windowsOk := by unfold State.windowsOk Window.ok; decide +kernel

theorem acting_feeds : ∀ (w : Fin 96) (f : Feeder), f ∈ acting.windows[w].feeders ↔ acting.feeds f w := by
  have empty : ∀ w : Fin 96, acting.windows[w].feeders = [] := by decide +kernel
  have points : ∀ p : Fin 256, acting.feederActive p = false := by decide +kernel
  have channels : ∀ c : Fin 8, acting.channels[c].state = .disarmed := by decide +kernel
  intro w f
  rw [empty w]
  cases f with
  | point p => simp [State.feeds, points p]
  | channel c =>
    have h := channels c
    simp only [State.feeds, h]
    simp
  | health => exact ⟨fun h => (by cases h), fun h => (nomatch h.1)⟩

theorem witness_FeedersKept : acting.restOk ∧ acting.feedersOk ∧ acting.healthOk :=
  ⟨fun h => absurd rfl h, fun _ => acting_feeds, fun _ => by decide +kernel⟩

/-- A frozen group of three points, the second of them LATE. -/
def frozenGroup : State :=
  { live with
    tables := { live.tables with group := upd live.tables.group 7 fun r => { r with enable := true } }
    groups := upd live.groups 7 fun v =>
      { v with
        state := .frozen, origin := some 100, marker := some 5
        entries := [⟨3, 100, false⟩, ⟨4, 90, true⟩, ⟨5, 100, false⟩] } }

theorem witness_GroupsKept : frozenGroup.groupsOk := by
  have others : ∀ g : Fin 8, g ≠ 7 → frozenGroup.groups[g] = FoGroup.atReset := by decide +kernel
  have rests : FoGroup.ok false FoGroup.atReset := by
    unfold FoGroup.ok FoGroup.listOk
    exact ⟨⟨by decide, by decide, trivial⟩, by decide +kernel⟩
  have disabled : ∀ g : Fin 8, g ≠ 7 → frozenGroup.tables.group[g].enable = false := by decide +kernel
  intro g
  by_cases h : g = 7
  · subst h
    unfold FoGroup.ok FoGroup.listOk
    refine ⟨⟨by decide +kernel, by decide +kernel, rfl, Or.inr ⟨_, _, rfl, by decide +kernel, by decide +kernel⟩⟩,
      by decide +kernel, by decide +kernel, by decide +kernel, by decide +kernel, by decide +kernel,
      by decide +kernel, by decide +kernel⟩
  · rw [others g h, disabled g h]; exact rests

theorem witness_TripsKept : acting.tripsOk := by unfold State.tripsOk Channel.ok; decide +kernel

theorem witness_VotersKept : acting.restOk ∧ acting.votersOk :=
  ⟨fun h => absurd rfl h, fun _ => by decide +kernel⟩

theorem idle_ports : acting.field.ok ∧ acting.station.ok := by unfold Port.ok; decide +kernel

theorem witness_LinkKept : acting.restOk ∧ acting.linkOk ∧ acting.queueOk :=
  ⟨fun h => absurd rfl h, ⟨idle_ports.1, idle_ports.2, fun p _ _ => by cases p <;> decide +kernel, fun _ _ h => (by cases h)⟩,
   by decide +kernel, by decide +kernel, fun h => (by cases h), fun _ _ h => (by cases h)⟩

theorem witness_LineFrameBecomesCommand :
    live.receives .field = true ∧ (live.port .field).rx.reception = .afterIdle ∧ (long 240).length ≤ 240 := by
  decide +kernel

/-! ## Points and scan frames -/

/-- P3 with its frame of `b`, S1 last heard with number 5. -/
def gapped : State :=
  { mapped with scanners := upd mapped.scanners 1 fun _ => ⟨some 5, .tracking⟩ }

theorem witness_ScanStateAccepted :
    let b : ScanStateBody := ⟨1, 10, 100, 8, [8]⟩
    (∀ s ∈ [mapped, gapped], s.receives .field = true ∧ s.tables.namesScanner 1 = true ∧
      s.scanners[(1 : Fin 31)].last ≠ some b.seq) ∧
    b.inRange ∧ gapped.tables.sourceOk ∧ gapped.gapAt 1 b.seq = true ∧ mapped.gapAt 1 b.seq = false ∧
    gapped.tables.mapChannel 1 3 = some (0, 3) ∧ gapped.tables.covers 0 1 8 = true ∧ gapped.tables.covers 0 1 7 = false ∧
    (∀ c : Fin 64, gapped.tables.mapChannel 1 c.val ≠ some (0, 8)) :=
  ⟨by decide +kernel, by unfold ScanStateBody.inRange; decide, mapped_sourceOk, by decide +kernel, by decide +kernel,
   by decide +kernel, by decide +kernel, by decide +kernel, by decide +kernel⟩

theorem witness_ScanChangeAccepted :
    let b : ScanChangeBody := ⟨1, 10, 100, [⟨3, 1, 65535⟩, ⟨255, 0, 0⟩, ⟨3, 2, 0⟩]⟩
    gapped.receives .field = true ∧ b.inRange ∧ gapped.tables.sourceOk ∧ gapped.tables.namesScanner 1 = true ∧
    gapped.scanners[(1 : Fin 31)].last ≠ some b.seq ∧ gapped.tables.mapChannel 1 3 = some (0, 3) :=
  ⟨by decide +kernel, by unfold ScanChangeBody.inRange; decide, mapped_sourceOk, by decide +kernel, by decide +kernel,
   by decide +kernel⟩

/-- An empty body spells no SCAN-STATE and no SCAN-CHANGE; a body of S31, and of a number last accepted, is passed over. -/
theorem witness_ScanFramesPassedOver :
    gapped.receives .field = true ∧ (∀ b : ScanStateBody, b.bytes ≠ []) ∧ (∀ b : ScanChangeBody, b.bytes ≠ []) ∧
    gapped.tables.namesScanner 30 = false ∧ gapped.scanners[(1 : Fin 31)].last = some 5 ∧
    ∀ b : ScanStateBody, b.inRange → [31, 5, 0, 0, 0, 0, 1, 0] = b.bytes → b.scanner = 31 := by
  refine ⟨by decide +kernel, fun _ h => (by cases h), fun _ h => (by cases h), by decide +kernel, by decide +kernel, ?_⟩
  intro b hb h
  have e : (31 : Byte) = byteOf b.scanner := (List.cons.inj h).1
  have e' := congrArg BitVec.toNat e
  rw [byteOf_toNat] at e'
  have le := hb.1
  have lt : b.scanner % 256 = b.scanner := Nat.mod_eq_of_lt (by omega)
  rw [lt] at e'
  exact e'.symm

/-- P7 mapped from direct input 7, which has read SET. -/
def direct : State :=
  { live with
    tables := { live.tables with source := upd live.tables.source 23 fun _ => some ⟨31, 7, 1, 7, 100, 2⟩ }
    inputs := upd live.inputs 7 fun v => { v with reading := some .set } }

theorem witness_DebouncedReadingTaken :
    direct.phase = .running ∧ direct.inputs[(7 : Fin 8)].reading = some .set ∧
    direct.inputs[(0 : Fin 8)].reading ≠ some .set ∧ direct.tables.mapChannel 31 7 = some (23, 7) ∧
    direct.tables.mapChannel 31 0 = none := by decide +kernel

/-- P3 at the end of ON-DELAY, P4 in OFF-DELAY, P5 at the end of OFF-DELAY, and an entry's freshness timer at its end. -/
def delayed : State :=
  { mapped with
    points := upd (upd (upd mapped.points 3 fun _ => ⟨some .set, .good, .onDelay, .running 0, some 100, none⟩) 4
      fun v => { v with condition := .offDelay, delay := .running 60000 }) 5
      fun v => { v with condition := .offDelay, delay := .running 0 }
    entries := upd mapped.entries 0 fun v => { v with freshness := .running 0 } }

theorem witness_DelayTimerExpires :
    delayed.phase = .running ∧ delayed.points[(3 : Fin 256)].delay = .running 0 ∧
    delayed.points[(3 : Fin 256)].condition = .onDelay ∧ delayed.tables.point[(3 : Fin 256)].service = .inn ∧
    delayed.inhibited 3 = false ∧ delayed.tables.point[(3 : Fin 256)].window = some 5 ∧
    delayed.tables.point[(3 : Fin 256)].group = some 0 ∧ delayed.points[(3 : Fin 256)].changeStamp = some 100 ∧
    delayed.groups[(0 : Fin 8)].state = .armed ∧ (after delayed (.delayTimerExpiry 3)).groups[(0 : Fin 8)].state = .settling ∧
    delayed.points[(4 : Fin 256)].delay ≠ .running 0 ∧ delayed.points[(5 : Fin 256)].delay = .running 0 ∧
    delayed.points[(5 : Fin 256)].condition = .offDelay ∧ delayed.tables.point[(5 : Fin 256)].group = none := by
  decide +kernel

/-- A group of sixteen entries of P16 to P31, stamped 100 and after, with its origin. -/
def fullGroup (state : GroupState) : FoGroup :=
  { FoGroup.atReset with
    state, origin := some 100
    entries := (List.range 16).map fun k => ⟨Fin.ofNat 256 (16 + k), BitVec.ofNat 32 (100 + k), false⟩ }

/-- The cases of an arrival: a disabled group, a point that has its entry, an armed group, a place in a settling group and a
full one that the arrival sorts into or not, and a frozen group that is full, that has a LATE second, and that has none. -/
theorem witness_arrivals :
    (live.tables.group[(0 : Fin 8)].enable = false ∧ delayed.tables.group[(0 : Fin 8)].enable = true) ∧
    (∃ e ∈ (fullGroup .settling).entries, e.point = 31) ∧ ¬(∃ e ∈ (fullGroup .settling).entries, e.point = 3) ∧
    FoGroup.atReset.state = .armed ∧
    (16 ≤ (fullGroup .settling).entries.length ∧
      (fullGroup .settling).entries.getLast? = some ⟨31, 115, false⟩ ∧
      sortsBefore 100 ⟨3, 115, false⟩ ⟨31, 115, false⟩ = true ∧ sortsBefore 100 ⟨3, 116, false⟩ ⟨31, 115, false⟩ = false) ∧
    16 ≤ (fullGroup .frozen).entries.length ∧
    (frozenGroup.groups[(7 : Fin 8)].entries.head? = some ⟨3, 100, false⟩ ∧
      sortsBefore 100 ⟨2, 100, false⟩ ⟨3, 100, false⟩ = true ∧ sortsBefore 100 ⟨6, 100, false⟩ ⟨3, 100, false⟩ = false ∧
      ∃ e others, frozenGroup.groups[(7 : Fin 8)].entries.tail = e :: others ∧ e.late = true) := by
  refine ⟨by decide +kernel, by decide +kernel, by decide +kernel, rfl, by decide +kernel, by decide +kernel,
    by decide +kernel, by decide +kernel, by decide +kernel, _, _, rfl, rfl⟩

theorem witness_FreshnessTimerExpires :
    delayed.phase = .running ∧ delayed.entries[(0 : Fin 24)].freshness = .running 0 ∧
    delayed.entries[(1 : Fin 24)].freshness ≠ .running 0 ∧
    holdsPoint delayed.tables.source[(0 : Fin 24)] 7 = true ∧ holdsPoint delayed.tables.source[(0 : Fin 24)] 8 = false := by
  decide +kernel

theorem witness_ConditionMachine :
    let r := mapped.tables.point[(3 : Fin 256)]
    let v : Point := ⟨some .set, .stale, .normal, .stopped, some 1, none⟩
    r.service = .inn ∧ v.quality ≠ .unseen ∧ alarmRaw r v.raw = true ∧ r.onDelay = 0 ∧
    alarmRaw { r with polarity := .alarmOnClear } v.raw = false ∧ 0 < { r with onDelay := 60000 }.onDelay := by
  decide +kernel

/-! ## The mode, other frames, order and timers -/

/-- A part in GENERATE under mode source SET, held from PUMP. -/
def setMode : State :=
  { live with
    tables := { live.tables with panel := { live.tables.panel with modeSource := .set } }
    mode := ⟨some .generate, some .generate, some .pump, .running 2000, .stopped⟩ }

theorem codes_named : (∀ m : Mode, (0 : Byte) ≠ byteOf m.code) ∧ (∀ m : Mode, (8 : Byte) ≠ byteOf m.code) ∧
    (1 : Byte) = byteOf Mode.standstill.code ∧ (7 : Byte) = byteOf Mode.isolated.code :=
  ⟨fun m => by cases m <;> decide, fun m => by cases m <;> decide, rfl, rfl⟩

theorem witness_UnitStatusTaken :
    live.receives .field = true ∧ live.tables.panel.modeSource = .snoop ∧ live.tables.panel.unitNumber = 1 ∧
    setMode.receives .field = true ∧ setMode.tables.panel.modeSource = .set ∧ live.mode.effective ≠ some .isolated ∧
    { live with mode := setMode.mode }.mode.effective = some .generate ∧
    (∀ (u : Byte) (m : Mode), [(1 : Byte), 8] = [u, byteOf m.code] → u.toNat ≠ 1) := by
  refine ⟨by decide +kernel, by decide +kernel, by decide +kernel, by decide +kernel, by decide +kernel,
    by decide +kernel, rfl, ?_⟩
  intro u m h
  exact absurd (List.cons.inj (List.cons.inj h).2).1 (codes_named.2.1 m)

theorem witness_SetModeTaken :
    live.admits .station ∧ live.tables.panel.modeSource = .snoop ∧ setMode.admits .station ∧
    setMode.tables.panel.modeSource = .set ∧ setMode.mode.effective = some .generate ∧
    setMode.mode.effective ≠ some .isolated := by decide +kernel

theorem witness_ModeTimersExpire :
    let s := { live with mode := { setMode.mode with hold := .running 0, unitTimer := .running 0 } }
    let t := { live with mode := { live.mode with unitTimer := .running 0 } }
    s.phase = .running ∧ s.mode.hold = .running 0 ∧ s.mode.unitTimer = .running 0 ∧ s.mode.effective ≠ none ∧
    t.mode.unitTimer = .running 0 ∧ t.mode.effective = none ∧ setMode.phase = .running ∧
    setMode.mode.hold ≠ .running 0 ∧ setMode.mode.unitTimer ≠ .running 0 := by decide +kernel

theorem witness_TimeMarksAndOtherFrames :
    live.receives .field = true ∧ [255, 255, 255, 255] = bytes32 (0 - 1) ∧ ([] : List Byte).length ≠ 4 ∧
    live.noBlockActs ⟨0, 255, 1, []⟩ = true ∧ live.noBlockActs ⟨9, 0, 1, []⟩ = true ∧
    live.noBlockActs ⟨5, 0, 1, [0]⟩ = true ∧ live.noBlockActs ⟨6, 1, 60, [0, 1, 15]⟩ = true := by decide +kernel

theorem witness_ListOrderIsPrecedence :
    let o : Stamp := 7
    let x : Stamp := o + 2 ^ 30 - 1
    let y : Stamp := o - 2 ^ 30
    (x - o).toNat < 2 ^ 30 ∧ (o - y).toNat ≤ 2 ^ 30 ∧ ¬(y - o).toNat < 2 ^ 30 ∧
    sortsBefore o ⟨9, y, false⟩ ⟨0, x, false⟩ = true ∧ sortsBefore o ⟨0, x, false⟩ ⟨9, x, false⟩ = true := by
  decide +kernel

/-- T0 in FIRING and G7 in SETTLING, both at their timers' ends, and T1 in FIRING with its pulse running. -/
def firing : State :=
  { live with
    channels := upd (upd live.channels 0 fun v => { v with state := .firing, pulse := .running 0 }) 1
      fun v => { v with state := .firing, pulse := .running 20 }
    groups := upd live.groups 7 fun v =>
      { v with state := .settling, origin := some 100, settle := .running 0, entries := [⟨3, 100, false⟩] } }

theorem witness_SettleAndPulseTimersEnd :
    firing.phase = .running ∧ firing.groups[(7 : Fin 8)].settle = .running 0 ∧
    firing.groups[(0 : Fin 8)].settle ≠ .running 0 ∧ firing.channels[(0 : Fin 8)].state = .firing ∧
    firing.channels[(0 : Fin 8)].pulse = .running 0 ∧ firing.channels[(1 : Fin 8)].pulse ≠ .running 0 ∧
    firing.channels[(2 : Fin 8)].state ≠ .firing := by decide +kernel

/-! ## Console commands -/

theorem witness_UnmatchedConsoleFramesPass :
    (Instr.ack ⟨.station, 0, 60, 16, 0, 0⟩, 1) ∈ consoleCommands ⟨.station, 0, 60, 16, 0, 0⟩ ∧
    live.receives .station = true ∧
    ¬(ConsoleFrame.console ⟨.station, 0, 60, 16, 0, 0⟩).toNat ≤ 15 ∧ ¬(console 5 0).targetKind.toNat ≤ 4 ∧
    ¬matchRule live.tables.panel live.panelAddress 64 ∧ ¬matchRule live.tables.panel live.panelAddress 1 ∧
    matchRule live.tables.panel live.panelAddress 0 ∧ matchRule live.tables.panel live.panelAddress 255 := by
  have no {d : Byte} (h : live.matchesPanel d = false) : ¬matchRule live.tables.panel live.panelAddress d :=
    fun x => by rw [(matchesPanel_iff live d).mpr x] at h; cases h
  exact ⟨List.mem_cons_self, by decide +kernel, by decide, by decide, no (by decide +kernel), no (by decide +kernel),
    (matchesPanel_iff live 0).mp (by decide +kernel), (matchesPanel_iff live 255).mp (by decide +kernel)⟩

theorem live_obeys : live.obeys (console 2 95) ∧ live.obeys (console 2 96) ∧ live.obeys (console 1 0) ∧
    live.obeys (console 0 0) ∧ live.obeys (console 3 8) :=
  ⟨obeys_of (by decide +kernel), obeys_of (by decide +kernel), obeys_of (by decide +kernel),
   obeys_of (by decide +kernel), obeys_of (by decide +kernel)⟩

theorem witness_AckAndResetTakeNamedWindows :
    live.obeys (console 2 95) ∧ windowTarget (console 2 95) ∧ namesWindow (console 2 95) 95 ∧
    live.obeys (console 1 0) ∧ windowTarget (console 1 0) ∧ sounding.windows[(5 : Fin 96)].state = .alert ∧
    namesWindow (console 1 0) 5 ∧ sounding.obeys (console 1 0) :=
  ⟨live_obeys.1, by decide, by decide, live_obeys.2.2.1, by decide, by decide +kernel, by decide,
   obeys_of (by decide +kernel)⟩

theorem witness_HornAndLampTestCommands :
    sounding.obeys (console 0 0) ∧ sounding.horn = .sounding ∧ sounding.phase = .running ∧
    sounding.lampTest ≠ .running 0 ∧ { live with lampTest := .running 0 }.lampTest = .running 0 ∧
    { live with lampTest := .running 0 }.lampTest.isRunning = true ∧ sounding.lampTest.isRunning = false ∧
    sounding.hornOutput = true ∧ sounding.windows[(5 : Fin 96)].state = .alert ∧
    lockedOut.windows[(7 : Fin 96)].state = .held ∧ sounding.pattern 5 = .fastFlash ∧ sounding.flash % 320 < 160 ∧
    sounding.lampDrive 5 ≠ (0, 0, 0) ∧ { sounding with flash := 160 }.lampDrive 5 = (0, 0, 0) :=
  ⟨obeys_of (by decide +kernel), by decide +kernel⟩

/-- Console 2 holds T0. -/
def holding : State := selecting lockedOut (.trip 0)

/-- A target that names no channel or group, and one that is disabled, may not be selected. -/
theorem unselectable : (∀ x : Target, namesTarget (console 3 8) x → ¬live.selectable x) ∧
    ∀ x : Target, namesTarget (console 3 0) x → ¬live.selectable x := by
  constructor <;> intro x hx
  · have e : Target.of (3 : Byte) 8 = some x := (target_of_iff (console 3 8) x).mpr hx
    cases e
  · have e : Target.of (3 : Byte) 0 = some x := (target_of_iff (console 3 0) x).mpr hx
    injection e with e
    subst e
    intro h
    have := (targetDisabled_iff live (.trip 0)).mpr h
    exact absurd this (by decide +kernel)

theorem witness_ConsoleRefusals :
    live.obeys (console 2 96) ∧ ¬windowTarget (console 2 96) ∧ ¬windowTarget (console 3 8) ∧
    (∀ x : Target, namesTarget (console 3 8) x → ¬live.selectable x) ∧ live.selection = none ∧
    (console 3 8).dest ≠ 255 ∧ live.obeys ⟨.station, 255, 60, 2, 3, 0⟩ ∧
    holding.obeys (console 3 1) ∧ holding.selection = some ⟨2, .trip 0, .running 10000⟩ ∧
    ¬namesTarget (console 3 1) (.trip 0) :=
  ⟨live_obeys.2.1, by decide, by decide, unselectable.1, rfl, by decide, obeys_of (by decide +kernel),
   obeys_of (by decide +kernel), rfl, by decide⟩

theorem witness_SelectionSlotMoves :
    lockedOut.obeys (console 3 0) ∧ namesTarget (console 3 0) (.trip 0) ∧ lockedOut.selectable (.trip 0) ∧
    lockedOut.selection = none ∧ holding.selectable (.trip 0) ∧ frozenGroup.selectable (.group 7) ∧
    holding.obeys (console 0 0) ∧ holding.selection = some ⟨2, .trip 0, .running 10000⟩ ∧ holding.phase = .running ∧
    (∀ h, holding.selection = some h → h.age ≠ .running 0) ∧
    { holding with selection := some ⟨2, .trip 0, .running 0⟩ }.selection = some ⟨2, .trip 0, .running 0⟩ :=
  ⟨obeys_of (by decide +kernel), by decide, selectable_of (by decide +kernel), rfl, selectable_of (by decide +kernel),
   selectable_of (by decide +kernel), obeys_of (by decide +kernel), rfl, rfl,
   fun h e => by rw [← Option.some.inj e]; decide, rfl⟩

theorem witness_ExecuteResetsGroup :
    let s := selecting frozenGroup (.group 7)
    s.obeys (console 4 7) ∧ s.selection = some ⟨2, .group 7, .running 10000⟩ ∧ namesTarget (console 4 7) (.group 7) ∧
    s.groups[(7 : Fin 8)].marker = some 5 :=
  ⟨obeys_of (by decide +kernel), rfl, by decide, by decide +kernel⟩

theorem witness_ExecuteResetsChannel :
    holding.obeys (console 3 0) ∧ namesTarget (console 3 0) (.trip 0) ∧
    holding.channels[(0 : Fin 8)].state = .lockout ∧
    holding.channels[(0 : Fin 8)].count < holding.tables.trip[(0 : Fin 8)].required ∧
    { holding with channels := upd holding.channels 0 fun v => { v with count := 1 } }.tables.trip[(0 : Fin 8)].required ≤ 1 ∧
    (selecting firing (.trip 0)).obeys (console 3 0) ∧ firing.channels[(0 : Fin 8)].state = .firing ∧
    live.channels[(0 : Fin 8)].state ≠ .lockout ∧ (selecting live (.trip 0)).obeys (console 3 0) :=
  ⟨obeys_of (by decide +kernel), by decide, by decide +kernel, by decide +kernel, by decide +kernel,
   obeys_of (by decide +kernel), by decide +kernel, by decide +kernel, obeys_of (by decide +kernel)⟩

/-! ## Requests -/

/-- A part with both response slots of the Station port taken. -/
def busySlots : State :=
  { live with station := { live.station with slots := [.reserved 1 2, .reserved 3 4], tx := .gap } }

theorem witness_UnansweredRequests :
    busySlots.receives .station = true ∧ 2 ≤ (busySlots.port .station).slots.length ∧
    Instr.readNext (req []) ∈ (requestCommands (req [])).map (·.1) ∧
    Instr.writePanel (req []) ∈ (writeCommands (req [])).map (·.1) ∧ (17 : Byte).toNat = 17 := by decide +kernel

theorem witness_MalformedRequestsRefused :
    live.admits .station ∧ (req [0, 0]).args.length ≠ argBytes 2 ∧ (req [0]).args.length ≠ argBytes 4 ∧
    (Instr.lockAll (req [0]), asked 7 none) ∈ requestCommands (req [0]) ∧
    (Instr.writeGroup (req [0]), TableId.group) ∈ writeCommands (req [0]) ∧
    (req [0]).args.length ≠ 1 + TableId.group.recordBytes ∧
    (7 : BitVec 16).toNat = (0 : Byte).toNat * 256 + (7 : Byte).toNat ∧ 8 ≤ (8 : Byte).toNat := by decide +kernel

/-- A part with a STORE in flight, one with a FREEZE-TRIP in flight, and one with a pattern reset pending. -/
def storing (stage : StoreStage) : State :=
  { live with management := { live.management with flight := some (.store live.tables stage) } }
def freezing : State :=
  { live with management := { live.management with flight := some (.freeze live.tables.tripArea) } }
def pendingReset : State :=
  { live with management := { live.management with pendingReset := some false } }

theorem witness_BusyAnswers :
    (storing .accepted).admits .station ∧ (storing .final).management.flight.isSome = true ∧ freezing.management.flight.isSome = true ∧
    (req [0, 50, 1]).args.length = 1 + TableId.group.recordBytes ∧ (req []).args.length = argBytes 11 ∧
    (req [0, 1]).args.length = argBytes 4 ∧ (req [0, 1, 0]).args.length = argBytes 9 ∧
    pendingReset.admits .station ∧ pendingReset.management.pendingReset.isSome = true ∧
    (req [1]).args.length = argBytes 16 := by decide +kernel

theorem witness_ReadAnswered :
    live.admits .station ∧ 16 ≤ (16 : Byte).toNat ∧ (15 : Byte) = TableId.counters.code ∧
    ¬(1 ≤ (0 : Byte).toNat ∧ (0 : Byte).toNat ≤ 8) ∧ ¬(1 ≤ (9 : Byte).toNat ∧ (9 : Byte).toNat ≤ 8) ∧
    TableId.counters.size ≤ 1 + 2 - 1 ∧ 0 + 2 - 1 < TableId.counters.size ∧ 234 < 3 * TableId.groupList.recordBytes ∧
    2 * TableId.groupList.recordBytes ≤ 234 := by decide +kernel

/-- A part whose read pointer stands at the end of its table. -/
def readThrough : State := { live with management := { live.management with readIndex := 256 } }

theorem witness_ReadNextAndStatusAnswered :
    live.admits .station ∧ live.managementOk ∧ live.management.readIndex < live.management.readTable.size ∧
    readThrough.admits .station ∧ readThrough.managementOk ∧
    readThrough.management.readIndex = readThrough.management.readTable.size := by
  unfold State.managementOk; decide +kernel

/-- Records that no value in range has. -/
theorem out_of_range :
    (∀ p : Panel, p.inRange → ¬p.spelledBy [0, 0, 63, 0, 0, 63, 95, 0, 0, 2, 7, 208, 5, 0, 10, 255, 1, 0, 0]) ∧
    (∀ e, (∀ x, e = some x → x.inRange) → ¬sourceSpelledBy e [1, 0, 0, 0, 0, 10, 2]) ∧
    (∀ x : PointRecord, x.inRange → x.service = .out → ¬x.spelledBy [1, 0, 0, 0, 0, 0, 255, 255, 0, 0, 255, 255, 255, 255]) ∧
    (∀ x : WindowRecord, ([2, 0, 0, 0, 0] : List Byte) ≠ x.bytes) ∧
    (∀ x : GroupRecord, x.inRange → ([0, 0] : List Byte) ≠ x.bytes) ∧
    (∀ x : TripRecord, x.inRange → ([0, 0, 0, 0, 100, 255, 0] : List Byte) ≠ x.bytes) ∧
    (∀ m : Bool, ([2] : List Byte) ≠ [flagByte m]) := by
  have small {n k : Nat} (h : (byteOf n).toNat = k) (lt : n < 256) : n = k := by rw [byteOf_toNat] at h; omega
  refine ⟨fun p h e => ?_, fun e h w => ?_, fun x h out w => ?_, fun x e => ?_, fun x h e => ?_, fun x h e => ?_,
    fun m => by cases m <;> decide⟩
  · have e1 : (0 : Byte) = byteOf p.unitNumber := (List.cons.inj e.2).1
    have e2 : p.unitNumber = 0 := small (congrArg BitVec.toNat e1.symm) (by have := h.2.1; omega)
    exact absurd h.1 (by omega)
  · cases e with
    | none => exact absurd (w.2.1 rfl) (by decide)
    | some x =>
      have r := h x rfl
      have e0 := w.2.2 (by simp)
      have e1 : (0 : Byte) = byteOf x.count := (List.cons.inj (List.cons.inj (List.cons.inj e0).2).2).1
      have lt : x.count ≤ 64 := by have := r.2.1; split at this <;> omega
      have e2 : x.count = 0 := small (congrArg BitVec.toNat e1.symm) (by omega)
      exact absurd r.1 (by omega)
  · have e1 := congrArg List.head? w.2
    rw [Nat.add_comm, List.take_succ_cons] at e1
    have e2 : (1 : Byte) = x.service.code := Option.some.inj e1
    rw [out] at e2
    exact absurd e2 (by decide)
  · have e1 : (2 : Byte) = x.sequence.code := (List.cons.inj e).1
    cases hs : x.sequence <;> rw [hs] at e1 <;> exact absurd e1 (by decide)
  · have e1 : (0 : Byte) = byteOf x.settleMs := (List.cons.inj e).1
    have e2 : x.settleMs = 0 := small (congrArg BitVec.toNat e1.symm) (by have := h.2; omega)
    exact absurd h.1 (by omega)
  · have e1 : (0 : Byte) = byteOf x.required := (List.cons.inj e).1
    have e2 : x.required = 0 := small (congrArg BitVec.toNat e1.symm) (by have := h.2.1; omega)
    exact absurd h.1 (by omega)

theorem witness_WriteIndexAndValuesRefused :
    live.admits .station ∧ live.management.flight = none ∧ TableId.window.size ≤ (96 : Byte).toNat ∧
    (long 5).length = TableId.window.recordBytes ∧ (95 : Byte).toNat < 96 ∧ (7 : Byte).toNat < 8 := by decide +kernel

/-- PANEL settings at the ends of their ranges, another unit under SET. -/
def otherPanel : Panel :=
  { live.tables.panel with
    unitNumber := 8, matchMode := .range, rangeLow := 63, modeHoldMs := 30000, unitTimeoutS := 60
    modeSource := .set, selectionAgeS := 30, healthMasks := 0x7FF }

theorem witness_WritePanelAccepted :
    live.admits .station ∧ live.management.flight = none ∧ otherPanel.inRange ∧ live.tables.panel.inRange ∧
    live.tables.panel.unitNumber ≠ otherPanel.unitNumber ∧ otherPanel.spelledBy (otherPanel.bytes.take 16 ++ [9, 9, 9]) :=
  ⟨by decide +kernel, rfl, by unfold Panel.inRange; decide, by unfold Panel.inRange; decide, by decide, by decide,
   by decide⟩

/-- The entry of `mapped`, and one that overlaps it by its points. -/
def entryA : SourceEntry := ⟨1, 0, 8, 0, 100, 2⟩
def entryB : SourceEntry := ⟨31, 0, 8, 7, 10, 8⟩
def entryC : SourceEntry := ⟨1, 8, 56, 8, 10000, 2⟩

theorem witness_WriteSourceJudged :
    mapped.admits .station ∧ mapped.management.flight = none ∧ entryA.inRange ∧ entryB.inRange ∧ entryC.inRange ∧
    mapped.tables.source[(0 : Fin 24)] = some entryA ∧ ¬entryB.apart entryA ∧ entryC.apart entryA ∧
    holdsPoint (some entryA) 3 = true ∧ mapped.tables.point[(3 : Fin 256)].service = .inn ∧
    sourceSpelledBy (some entryB) (sourceBytes (some entryB)) ∧ sourceSpelledBy none [255, 1, 2, 3, 4, 5, 6] ∧
    ∀ p : Fin 256, live.tables.point[p].service = .out :=
  ⟨by decide +kernel, rfl, by unfold SourceEntry.inRange; decide, by unfold SourceEntry.inRange; decide,
   by unfold SourceEntry.inRange; decide, by decide +kernel, by unfold SourceEntry.apart; decide,
   by unfold SourceEntry.apart; decide, by decide, by decide +kernel,
   ⟨by decide, fun h => (nomatch h), fun _ => rfl⟩, ⟨by decide, fun _ => rfl, fun h => absurd rfl h⟩, by decide +kernel⟩

/-- A point record at the ends of its ranges. -/
def longDelays : PointRecord := ⟨.out, .alarmOnClear, 60000, 60000, some 95, some 7, 0x7F, [7, 0, 3, 1]⟩

/-- Protection over the top and bottom parts of the Point Table. -/
def ranged (s : State) (level : Nat) (d : Direction) : State :=
  { s with tables := { s.tables with panel := { s.tables.panel with scheme := .range, level := level, direction := d } } }

theorem witness_WritePointJudged :
    live.admits .station ∧ live.management.flight = none ∧ longDelays.inRange ∧ longDelays.service = .out ∧
    longDelays.spelledBy longDelays.bytes ∧
    PointRecord.default.spelledBy [0, 0, 0, 0, 0, 0, 255, 255, 0, 0, 1, 2, 3, 4] ∧
    live.protects 255 ∧ (ranged live 1 .top).protects 240 ∧ ¬(ranged live 1 .top).protects 239 ∧
    (ranged live 5 .bottom).protects 255 ∧ ¬(ranged live 0 .top).protects 255 ∧
    (ranged mapped 0 .top).tables.point[(3 : Fin 256)].service = .inn ∧ ¬(ranged frozen 0 .top).protects 4 ∧
    frozen.nv.frozen = true ∧ frozen.tables.point[(4 : Fin 256)].votes ≠ longDelays.votes ∧
    frozen.tables.point[(4 : Fin 256)].service = .out := by
  have range (l : Nat) (d : Direction) (s : State) (n : Nat) (p : Fin 256)
      (hn : [0, 16, 32, 64, 128, 256][l]? = some n) :
      (ranged s l d).protects p ↔ match d with | .top => 256 - n ≤ p.val | .bottom => p.val < n := by
    show (∃ m, [0, 16, 32, 64, 128, 256][l]? = some m ∧ _) ↔ _
    constructor
    · rintro ⟨m, hm, h⟩; rw [hn] at hm; injection hm with hm; rw [hm]; exact h
    · exact fun h => ⟨n, hn, h⟩
  exact ⟨by decide +kernel, rfl, by unfold PointRecord.inRange; decide, rfl, ⟨by decide, rfl⟩, ⟨by decide, by decide⟩, ⟨15, rfl, by decide +kernel⟩,
    (range 1 .top live 16 240 rfl).mpr (by decide), fun h => absurd ((range 1 .top live 16 239 rfl).mp h) (by decide),
    (range 5 .bottom live 256 255 rfl).mpr (by decide), fun h => absurd ((range 0 .top live 0 255 rfl).mp h) (by decide),
    by decide +kernel, fun h => absurd ((range 0 .top frozen 0 4 rfl).mp h) (by decide),
    rfl, by decide +kernel, by decide +kernel⟩

theorem witness_WriteDisplayTablesAccepted :
    sounding.admits .station ∧ sounding.management.flight = none ∧
    sounding.tables.window[(5 : Fin 96)].horn = true ∧ sounding.windows[(5 : Fin 96)].state = .alert ∧
    (∃ v : Fin 96, sounding.tables.lampMask[v] = false ∧
      { sounding with lamps := upd sounding.lamps 95 fun x => { x with fault := some .short } }.lamps[v].fault ≠ none) ∧
    ∀ v : Fin 96, sounding.tables.lampMask[v] = true ∨ sounding.lamps[v].fault = none :=
  ⟨by decide +kernel, rfl, by decide +kernel, by decide +kernel, ⟨95, by decide +kernel, by decide +kernel⟩,
   by decide +kernel⟩

theorem witness_WriteGroupAccepted :
    frozenGroup.admits .station ∧ frozenGroup.management.flight = none ∧ (⟨250, false⟩ : GroupRecord).inRange ∧
    (⟨1, true⟩ : GroupRecord).inRange ∧ frozenGroup.tables.group[(7 : Fin 8)].enable = true ∧
    frozenGroup.groups[(7 : Fin 8)].marker = some 5 :=
  ⟨by decide +kernel, rfl, by unfold GroupRecord.inRange; decide, by unfold GroupRecord.inRange; decide,
   by decide +kernel, by decide +kernel⟩

/-- A part in ISOLATED. -/
def maintained (s : State) : State := { s with mode := { s.mode with effective := some .isolated } }

theorem witness_WriteTripJudged :
    frozen.admits .station ∧ frozen.nv.frozen = true ∧ live.admits .station ∧ live.nv.frozen = false ∧
    live.mode.effective ≠ some .isolated ∧ live.mode.effective ≠ some .standstill ∧
    (maintained live).mode.effective = some .isolated ∧
    (maintained lockedOut).channels[(0 : Fin 8)].state = .lockout ∧
    (⟨1, 1, .holdLast, 20, some 7, true⟩ : TripRecord).inRange ∧ (⟨8, 63, .countClear, 2000, none, true⟩ : TripRecord).inRange ∧
    (maintained live).channels[(0 : Fin 8)].state ≠ .firing ∧ (maintained live).channels[(0 : Fin 8)].state ≠ .lockout :=
  ⟨by decide +kernel, rfl, by decide +kernel, rfl, by decide, by decide, rfl, by decide +kernel,
   by unfold TripRecord.inRange; decide, by unfold TripRecord.inRange; decide, by decide +kernel, by decide +kernel⟩

theorem witness_ServiceTaken :
    mapped.admits .station ∧ mapped.management.flight = none ∧ mapped.tables.point[(3 : Fin 256)].service = .inn ∧
    mapped.tables.point[(3 : Fin 256)].votes = [0] ∧ mapped.tables.point[(255 : Fin 256)].service = .out ∧
    2 ≤ (2 : Byte).toNat ∧ (after mapped (scan 10 8)).feederActive 3 = true ∧
    (after mapped (scan 10 8)).tables.point[(3 : Fin 256)].window = some 5 := by decide +kernel

theorem witness_LocksAndProtectTaken :
    live.admits .station ∧ 16 ≤ (16 : Byte).toNat ∧ (15 : Byte).toNat = (15 : Fin 16).val ∧
    (maintained live).admits .station ∧ (maintained live).mode.effective = some .isolated ∧
    live.mode.effective ≠ some .isolated ∧ live.mode.effective ≠ some .standstill ∧
    (maintained live).management.flight = none ∧ 6 ≤ (6 : Byte).toNat ∧ (5 : Byte).toNat ≤ 5 ∧
    (1 : Byte) = Scheme.block.code ∧ (0 : Byte) = Direction.top.code := by decide +kernel

theorem witness_ResetKeysTaken :
    let s := { live with management := { live.management with keyProgress := 3, keyTimer := .running 0 } }
    live.admits .station ∧ live.management.keyProgress = 0 ∧ s.admits .station ∧ s.management.pendingReset = none ∧
    s.management.keyProgress ≤ 3 ∧ s.phase = .running ∧ s.management.keyTimer = .running 0 ∧
    live.management.keyTimer ≠ .running 0 := by decide +kernel

/-! ## Health, the store, the link and the resets -/

theorem witness_ClearHealthTaken :
    let s := { live with health := { live.health with flags := 0x7FF } }
    s.admits .station ∧ s.flagSet 10 = true ∧ s.conditionPresent 10 = false ∧ s.conditionPresent 8 = false := by
  decide +kernel

/-- W5 in HELD, lit in its normal colour, with two SHORT readings. -/
def lit : State :=
  { live with
    windows := upd live.windows 5 fun v => { v with state := .held }
    lamps := upd live.lamps 5 fun v => { v with run := some (.short, 2) } }

theorem witness_LampCheckTaken :
    lit.phase = .running ∧ lit.lampLit 5 = true ∧ lit.lampDrive 5 = (255, 176, 0) ∧ lit.lampLit 4 = false ∧
    lit.lamps[(5 : Fin 96)].run = some (.short, 2) := by decide +kernel

theorem witness_CoilCheckTaken :
    firing.phase = .running ∧ firing.channels[(0 : Fin 8)].state = .firing ∧
    firing.channels[(7 : Fin 8)].state ≠ .firing ∧
    ∀ n < 3, { live with coils := upd live.coils 7 fun v => { v with run := some (.opened, n) } }.coils[(7 : Fin 8)].run =
      some (.opened, n) := by decide +kernel

theorem witness_MeasurementsTaken :
    let s := { live with health := { live.health with hot := true, supplyLow := true } }
    live.phase = .running ∧ live.health.hot = false ∧ live.health.supplyLow = false ∧ (85 : Int) < 86 ∧
    s.phase = .running ∧ s.health.hot = true ∧ s.health.supplyLow = true ∧ (75 : Int) ≤ 75 ∧ live.management.flight = none :=
  by decide +kernel

theorem witness_FreezeTripAndStoreJudged :
    frozen.admits .station ∧ frozen.nv.frozen = true ∧ live.nv.frozen = false ∧
    live.mode.effective ≠ some .isolated ∧ live.mode.effective ≠ some .standstill ∧ (maintained live).admits .station ∧
    (maintained live).management.flight = none ∧ (maintained live).management.pendingReset = none ∧
    (maintained lockedOut).channels[(0 : Fin 8)].state = .lockout ∧
    (∀ c : Fin 8, (maintained live).channels[c].state ≠ .firing ∧ (maintained live).channels[c].state ≠ .lockout) ∧
    live.health.supplyLow = false ∧
    { live with health := { live.health with supplyLow := true } }.health.supplyLow = true := by decide +kernel

theorem witness_StoreAndFreezeEnd :
    (∀ stage : StoreStage, (storing stage).phase = .running ∧
      (storing stage).management.flight = some (.store live.tables stage) ∧ (storing stage).health.supplyLow = false) ∧
    freezing.phase = .running ∧ freezing.management.flight = some (.freeze live.tables.tripArea) ∧
    freezing.health.supplyLow = false ∧ inSet live.health.flags 10 = false :=
  ⟨fun _ => ⟨rfl, rfl, rfl⟩, rfl, rfl, rfl, rfl⟩

/-- A part whose Station port is TRAINING, with a record waiting. -/
def training : State :=
  { live with station := { live.station with status := .training }, reports := [⟨.store .stored, 0⟩] }

theorem training_linkOk : training.linkOk := by
  refine ⟨by unfold Port.ok; decide +kernel, by unfold Port.ok; decide +kernel, fun p h _ => ?_, fun _ _ h => (by cases h)⟩
  cases p
  · decide +kernel
  · cases h

theorem witness_FailuresCountedAndPortsMove :
    live.receives .field = true ∧ (live.port .field).status ≠ .down ∧
    { live with field := Port.atReset }.phase = .running ∧ ({ live with field := Port.atReset }.port .field).status = .down ∧
    (training.port .station).status = .training ∧ training.linkOk ∧ training.receives (otherPort .station) = true ∧
    training.noBlockActs ⟨9, 0, 1, []⟩ = true :=
  ⟨by decide +kernel, by decide +kernel, rfl, rfl, rfl, training_linkOk, by decide +kernel, by decide +kernel⟩

/-- A part that sends a frame of each kind. -/
def sendingAll (tx : Transmitter) : State :=
  { live with
    field := { live.field with fifo := [⟨9, 0, 1, []⟩], tx := .transit }
    station := { live.station with slots := [.filled ⟨7, 1, 0, []⟩ true], tx }
    reports := [⟨.store .stored, 0⟩], lost := 255 }

theorem witness_TransmissionsEnd :
    (sendingAll .response).phase = .running ∧ ((sendingAll .response).port .field).tx = .transit ∧
    ((sendingAll .response).port .station).tx = .response ∧ (sendingAll (.report 1 255)).station.tx = .report 1 255 := by
  decide +kernel

theorem witness_ArbiterChooses :
    (sendingAll .gap).phase = .running ∧ ((sendingAll .gap).port .station).status = .up ∧
    ((sendingAll .gap).port .station).tx = .gap ∧ ((sendingAll .gap).port .station).fifo = [] ∧
    ((sendingAll .gap).port .station).forwarded < 4 ∧ (sendingAll .gap).reports ≠ [] ∧
    (let s := after training (.portUp .station)
     s.receives (otherPort .station) = true ∧ (s.port .station).status = .up ∧ (s.port .station).justUp = true ∧
     s.reports ≠ []) ∧ live.forwards .field (scan 10 8) := by
  refine ⟨by decide +kernel, by decide +kernel, by decide +kernel, by decide +kernel, by decide +kernel,
    by decide +kernel, by decide +kernel, rfl⟩

theorem witness_ResetsAndLossOfSupply :
    pendingReset.phase = .running ∧ pendingReset.management.pendingReset = some false ∧
    pendingReset.management.flight = none ∧ (∀ c : Fin 8, pendingReset.channels[c].state ≠ .firing) ∧
    live.management.pendingReset ≠ some false ∧ ended.phase = .off ∧ live.phase ≠ .off ∧
    frozen.nv.frozen = true ∧ frozen.nv.tripArea = some mapped.tables.tripArea ∧ live.nv.frozen = false ∧
    resting.phase = .inReset .powerOn ∧ 159 < 160 ∧ live.health.supplyLow = false ∧
    (∀ stage : StoreStage, (storing stage).phase ≠ .off ∧ (storing stage).storeOk ∧
      (storing stage).management.flight = some (.store live.tables stage)) ∧
    freezing.phase ≠ .off ∧ freezing.management.flight = some (.freeze live.tables.tripArea) :=
  ⟨rfl, rfl, rfl, by decide +kernel, by decide, rfl, by decide, rfl, rfl, rfl, rfl, by decide, rfl,
   fun _ => ⟨fun h => (by cases h), fun _ _ _ => rfl, rfl⟩, by decide, rfl⟩

/-- A part in reset whose T0 comes up in LOCKOUT and feeds W7, by its image. -/
def restingLocked : State :=
  let image : Tables := { Tables.default with trip := upd Tables.default.trip 0 fun r => { r with window := some 7 } }
  { State.reset with
    nv := { Nonvolatile.factory with
      image, markValid := true, checkAgrees := true, lockout := upd Nonvolatile.factory.lockout 0 fun _ => true }
    tables := image
    channels := Vector.ofFn fun c => channelAfterReset (upd Nonvolatile.factory.lockout 0 fun _ => true)[c] }

theorem witness_ResetEnds :
    restingLocked.restOk ∧ restingLocked.phase = .inReset .powerOn ∧ 160 ≤ 160 ∧
    restingLocked.nv.lockout[(0 : Fin 8)] = true ∧ restingLocked.tables.trip[(0 : Fin 8)].window = some 7 :=
  ⟨fun _ => ⟨rfl, fun h => (by cases h), fun _ => ⟨rfl, rfl⟩⟩, rfl, by decide, by decide +kernel, by decide +kernel⟩

end Sys2Proof.Tests
end

section
/-! The condition machine (R15, R16): one equation for each condition a raw change meets, one for each delay that runs out,
and the table of R16 read off them. -/

namespace Sys2Proof.Machine

/-! ## A raw change -/

/-- An OUT point and an UNSEEN point are outside the condition machine (R15). -/
theorem takeRawChange_of_out_or_unseen {r : PointRecord} {v : Point} (h : r.service = .out ∨ v.quality = .unseen) :
    takeRawChange r v = v := by
  obtain hout | hunseen := h
  · simp [takeRawChange, hout]
  · simp [takeRawChange, hunseen]

section InAndSeen
variable {r : PointRecord} {v : Point} (hin : r.service = .inn) (hseen : v.quality ≠ .unseen)
include hin hseen

theorem takeRawChange_of_normal (hc : v.condition = .normal) :
    takeRawChange r v =
      if alarmRaw r v.raw then
        if r.onDelay = 0 then { v with condition := .abnormal, alarmStamp := v.changeStamp }
        else { v with condition := .onDelay, delay := .running r.onDelay }
      else v := by
  cases halarm : alarmRaw r v.raw <;> simp [takeRawChange, hin, hseen, hc, halarm]

theorem takeRawChange_of_onDelay (hc : v.condition = .onDelay) :
    takeRawChange r v = if alarmRaw r v.raw then v else { v with condition := .normal, delay := .stopped } := by
  simp [takeRawChange, hin, hseen, hc]

theorem takeRawChange_of_abnormal (hc : v.condition = .abnormal) :
    takeRawChange r v =
      if alarmRaw r v.raw then v
      else if r.offDelay = 0 then { v with condition := .normal, alarmStamp := none }
      else { v with condition := .offDelay, delay := .running r.offDelay } := by
  simp [takeRawChange, hin, hseen, hc]

theorem takeRawChange_of_offDelay (hc : v.condition = .offDelay) :
    takeRawChange r v = if alarmRaw r v.raw then { v with condition := .abnormal, delay := .stopped } else v := by
  simp [takeRawChange, hin, hseen, hc]

end InAndSeen

/-! ## A delay timer expiry -/

theorem takeDelayExpiry_of_onDelay {v : Point} (hc : v.condition = .onDelay) :
    takeDelayExpiry v = { v with condition := .abnormal, delay := .stopped, alarmStamp := v.changeStamp } := by
  simp [takeDelayExpiry, hc]

theorem takeDelayExpiry_of_offDelay {v : Point} (hc : v.condition = .offDelay) :
    takeDelayExpiry v = { v with condition := .normal, delay := .stopped, alarmStamp := none } := by
  simp [takeDelayExpiry, hc]

/-! ## The table of R16 -/

/-- Settles O15: each row of the table is one branch of the equation for the condition it starts from. -/
theorem conditionMachine : Obligations.ConditionMachine := by
  intro r v
  refine ⟨takeRawChange_of_out_or_unseen, fun hin hseen => ⟨?_, ?_, ?_, ?_, ?_, ?_, ?_⟩,
    takeDelayExpiry_of_onDelay, takeDelayExpiry_of_offDelay⟩
  -- NORMAL
  · intro hc halarm hzero
    simp [takeRawChange_of_normal hin hseen hc, halarm, hzero]
  · intro hc halarm hpos
    simp [takeRawChange_of_normal hin hseen hc, halarm, hpos.ne']
  · intro hc hclear
    simp [takeRawChange_of_normal hin hseen hc, hclear]
  -- ON-DELAY
  · intro hc hclear
    simp [takeRawChange_of_onDelay hin hseen hc, hclear]
  -- ABNORMAL
  · intro hc hclear hzero
    simp [takeRawChange_of_abnormal hin hseen hc, hclear, hzero]
  · intro hc hclear hpos
    simp [takeRawChange_of_abnormal hin hseen hc, hclear, hpos.ne']
  -- OFF-DELAY
  · intro hc halarm
    simp [takeRawChange_of_offDelay hin hseen hc, halarm]

end Sys2Proof.Machine
end

section
/-! ACK and RESET on the windows they name (R46 to R48). Both are a run of one operation, window by window, that moves a
window out of one state and makes its record; what such a run does is said once for the two, and the horn's test, which ACK
alone makes, is added. -/

namespace Sys2Proof.Machine

/-! ## Windows, horn and records under a view -/

/-- What keeps the view changes windows, horn and records alone. -/
theorem eq_of_offWindows {s t : State} (h : t.offWindows = s.offWindows) :
    t = { s with windows := t.windows, horn := t.horn, reports := t.reports, lost := t.lost } := by
  calc t = { t.offWindows with windows := t.windows, horn := t.horn, reports := t.reports, lost := t.lost } := rfl
    _ = { s.offWindows with windows := t.windows, horn := t.horn, reports := t.reports, lost := t.lost } := by rw [h]
    _ = _ := rfl

theorem port_of_offWindows {s t : State} (h : t.offWindows = s.offWindows) (q : PortId) : t.port q = s.port q := by
  cases q
  · exact (congrArg State.field h :)
  · exact (congrArg State.station h :)

theorem tables_of_offWindows {s t : State} (h : t.offWindows = s.offWindows) : t.tables = s.tables :=
  (congrArg State.tables h :)

theorem hornAlert_iff (s : State) :
    s.hornAlert = true ↔ ∃ w : Fin 96, s.tables.window[w].horn = true ∧ s.windows[w].state = .alert := by
  simp [State.hornAlert, mem_ascending]

theorem hornAlert_congr {s t : State} (htables : t.tables = s.tables) (hwindows : t.windows = s.windows) :
    t.hornAlert = s.hornAlert := by
  rw [State.hornAlert, State.hornAlert, htables, hwindows]

/-- The last row of R57, as the horn alone. -/
theorem hornCheck_eq (s : State) : s.hornCheck = { s with horn := if s.hornAlert = false then .off else s.horn } := by
  unfold State.hornCheck
  cases s.hornAlert <;> rfl

theorem hornCheck_hornAlert (s : State) : s.hornCheck.hornAlert = s.hornAlert :=
  hornAlert_congr (tables_of_offWindows (hornCheck_view s)) (hornCheck_windows s)

/-- The horn's test makes no record. -/
theorem hornCheck_makes (s : State) : s.makes s.hornCheck [] := by
  unfold State.hornCheck
  split <;> exact ⟨rfl, rfl⟩

/-- Records made by two effects in a row. -/
theorem makes_append {s t u : State} {l m : List ReportBody} (hclock : t.clock = s.clock) (hst : s.makes t l)
    (htu : t.makes u m) : s.makes u (l ++ m) := by
  have hclock' : t.clock = (l.foldl State.emit s).clock := by rw [emits_view, hclock]
  have hrun := emits_congr m hst.1 hst.2 hclock'
  rw [State.makes, List.foldl_append]
  exact ⟨htu.1.trans hrun.1, htu.2.trans hrun.2⟩

/-! ## One window -/

/-- Where a window goes, by its record and its active feeder set. -/
abbrev Destination := WindowRecord → List Feeder → WindowState

/-- A window taken out of state `k`; one in another state stays as it is. -/
def Window.moved (k : WindowState) (dest : Destination) (r : WindowRecord) (v : Window) : Window :=
  { v with state := if v.state = k then dest r v.feeders else v.state }

theorem Window.moved_of_eq {k : WindowState} {dest : Destination} {v : Window} (r : WindowRecord) (h : v.state = k) :
    v.moved k dest r = { v with state := dest r v.feeders } := by
  rw [Window.moved, if_pos h]

theorem Window.moved_of_ne {k : WindowState} {dest : Destination} {v : Window} (r : WindowRecord) (h : v.state ≠ k) :
    v.moved k dest r = v := by
  rw [Window.moved, if_neg h]

/-- No window comes into a state by being taken out of it. -/
theorem Window.state_of_moved {k : WindowState} {dest : Destination} {r : WindowRecord} {v : Window}
    (h : (v.moved k dest r).state = k) : v.state = k := by
  by_contra hne
  rw [Window.moved_of_ne r hne] at h
  exact hne h

/-- The record of a window taken out of a state. -/
def State.moveRecord (s : State) (dest : Destination) (w : Fin 96) : ReportBody :=
  .window w (dest s.tables.window[w] s.windows[w].feeders)

/-- The operation takes the window it is given out of state `k`, with its record, and changes nothing else but the horn. -/
structure MovesWindow (k : WindowState) (dest : Destination) (f : Fin 96 → State → State) : Prop where
  view : ∀ w s, (f w s).offWindows = s.offWindows
  window : ∀ w s (v : Fin 96),
    (f w s).windows[v] = if w = v then s.windows[v].moved k dest s.tables.window[v] else s.windows[v]
  makes : ∀ w (s : State), s.makes (f w s) (if s.windows[w].state = k then [s.moveRecord dest w] else [])

/-- The windows after one of them is taken out of a state, if it stands in it. -/
theorem getElem_upd_moved (k : WindowState) (dest : Destination) (s : State) (w v : Fin 96) :
    (if s.windows[w].state = k then
        upd s.windows w fun x => { x with state := dest s.tables.window[w] s.windows[w].feeders }
      else s.windows)[v] =
      if w = v then s.windows[v].moved k dest s.tables.window[v] else s.windows[v] := by
  by_cases heq : w = v
  · subst heq
    rw [if_pos rfl]
    by_cases h : s.windows[w].state = k
    · rw [if_pos h, upd_self, Window.moved_of_eq _ h]
    · rw [if_neg h, Window.moved_of_ne _ h]
  · rw [if_neg heq]
    split
    · exact upd_ne _ _ heq
    · rfl

/-- Where an acknowledged window goes (R46). -/
def ackedState : Destination := fun r feeders => if feeders = [] then clearedState r else .held

theorem ackedState_eq (r : WindowRecord) (feeders : List Feeder) :
    ackedState r feeders =
      if feeders ≠ [] then .held else if r.sequence = .manual then .clearWait else .quiet := by
  unfold ackedState clearedState
  split <;> cases r.sequence <;> simp_all

theorem ackWindow_of_alert {s : State} {w : Fin 96} (h : s.windows[w].state = .alert) :
    s.ackWindow w =
      ((s.modWindow w fun v => { v with state := ackedState s.tables.window[w] s.windows[w].feeders }).emit
        (s.moveRecord ackedState w)).hornCheck := if_pos h

theorem ackWindow_of_ne {s : State} {w : Fin 96} (h : s.windows[w].state ≠ .alert) : s.ackWindow w = s := if_neg h

theorem resetWindow_of_clearWait {s : State} {w : Fin 96} (h : s.windows[w].state = .clearWait) :
    s.resetWindow w =
      (s.modWindow w fun v => { v with state := .quiet }).emit (s.moveRecord (fun _ _ => .quiet) w) := if_pos h

theorem resetWindow_of_ne {s : State} {w : Fin 96} (h : s.windows[w].state ≠ .clearWait) : s.resetWindow w = s :=
  if_neg h

/-- A record made behind a change of a window. -/
theorem modWindow_emit_makes (s : State) (w : Fin 96) (f : Window → Window) (b : ReportBody) :
    s.makes ((s.modWindow w f).emit b) [b] :=
  emits_congr [b] (modWindow_reports s w f) (modWindow_lost s w f) (modWindow_clock s w f)

theorem ackWindow_moves : MovesWindow .alert ackedState fun w s => s.ackWindow w where
  view w s := ackWindow_view s w
  window w s v := by
    rw [ackWindow_windows]
    exact getElem_upd_moved .alert ackedState s w v
  makes w s := by
    by_cases h : s.windows[w].state = .alert
    · rw [if_pos h, ackWindow_of_alert h, ← List.append_nil [_]]
      exact makes_append (by simp) (modWindow_emit_makes _ _ _ _) (hornCheck_makes _)
    · rw [if_neg h, ackWindow_of_ne h]
      exact ⟨rfl, rfl⟩

theorem resetWindow_moves : MovesWindow .clearWait (fun _ _ => .quiet) fun w s => s.resetWindow w where
  view w s := resetWindow_view s w
  window w s v := by
    rw [resetWindow_windows]
    exact getElem_upd_moved .clearWait (fun _ _ => .quiet) s w v
  makes w s := by
    by_cases h : s.windows[w].state = .clearWait
    · rw [if_pos h, resetWindow_of_clearWait h]
      exact modWindow_emit_makes _ _ _ _
    · rw [if_neg h, resetWindow_of_ne h]
      exact ⟨rfl, rfl⟩

theorem ackWindow_horn (s : State) (w : Fin 96) :
    (s.ackWindow w).horn =
      if s.windows[w].state = .alert ∧ (s.ackWindow w).hornAlert = false then .off else s.horn := by
  by_cases h : s.windows[w].state = .alert
  · rw [ackWindow_of_alert h, hornCheck_hornAlert, hornCheck_eq]
    simp only [emit_horn, modWindow_horn, h, true_and]
  · rw [ackWindow_of_ne h, if_neg (fun hh => h hh.1)]

theorem resetWindow_horn (s : State) (w : Fin 96) : (s.resetWindow w).horn = s.horn := by
  by_cases h : s.windows[w].state = .clearWait
  · rw [resetWindow_of_clearWait h, emit_horn, modWindow_horn]
  · rw [resetWindow_of_ne h]

/-! ## A run over windows -/

section Run
variable {k : WindowState} {dest : Destination} {f : Fin 96 → State → State} (hf : MovesWindow k dest f)
include hf

theorem MovesWindow.tables (w : Fin 96) (s : State) : (f w s).tables = s.tables :=
  tables_of_offWindows (hf.view w s)

theorem MovesWindow.clock (w : Fin 96) (s : State) : (f w s).clock = s.clock :=
  (congrArg State.clock (hf.view w s) :)

/-- The turn of one window leaves every other. -/
theorem MovesWindow.window_of_ne {w v : Fin 96} (s : State) (h : w ≠ v) : (f w s).windows[v] = s.windows[v] := by
  rw [hf.window, if_neg h]

theorem MovesWindow.window_of_notMem {w : Fin 96} {ws : List (Fin 96)} (s : State) (hnot : w ∉ ws) :
    ∀ v ∈ ws, (f w s).windows[v] = s.windows[v] := fun _ hv =>
  hf.window_of_ne s fun heq => hnot (heq ▸ hv)

theorem MovesWindow.run_view (ws : List (Fin 96)) (s : State) : (forEach ws f s).offWindows = s.offWindows :=
  forEach_eq ws s fun w _ t => hf.view w t

theorem MovesWindow.run_tables (ws : List (Fin 96)) (s : State) : (forEach ws f s).tables = s.tables :=
  tables_of_offWindows (hf.run_view ws s)

theorem MovesWindow.run_window {ws : List (Fin 96)} (s : State) (hnodup : ws.Nodup) (v : Fin 96) :
    (forEach ws f s).windows[v] =
      if v ∈ ws then s.windows[v].moved k dest s.tables.window[v] else s.windows[v] := by
  induction ws generalizing s with
  | nil => simp
  | cons w ws ih =>
    obtain ⟨hnot, hrest⟩ := List.nodup_cons.mp hnodup
    rw [forEach_cons, ih (f w s) hrest, hf.tables]
    by_cases heq : w = v
    · subst heq
      rw [if_neg hnot, hf.window, if_pos rfl, if_pos List.mem_cons_self]
    · rw [hf.window_of_ne s heq]
      simp only [List.mem_cons, Ne.symm heq, false_or]

/-- A run moves no window into the state that it takes windows out of. -/
theorem MovesWindow.run_state {ws : List (Fin 96)} {s : State} (hnodup : ws.Nodup) {v : Fin 96}
    (h : (forEach ws f s).windows[v].state = k) : s.windows[v].state = k := by
  rw [hf.run_window s hnodup] at h
  split at h
  · exact Window.state_of_moved h
  · exact h

/-- A run that meets no window in its state leaves the windows. -/
theorem MovesWindow.run_windows_of_none {ws : List (Fin 96)} {s : State} (hnodup : ws.Nodup)
    (h : ∀ w ∈ ws, s.windows[w].state ≠ k) : (forEach ws f s).windows = s.windows := by
  apply Vector.ext
  intro i hi
  have hrun := hf.run_window s hnodup ⟨i, hi⟩
  split at hrun
  · next hmem => rwa [Window.moved_of_ne _ (h _ hmem)] at hrun
  · exact hrun

theorem MovesWindow.run_makes {ws : List (Fin 96)} (s : State) (hnodup : ws.Nodup) :
    s.makes (forEach ws f s) ((ws.filter fun w => s.windows[w].state = k).map (s.moveRecord dest)) := by
  induction ws generalizing s with
  | nil => exact ⟨rfl, rfl⟩
  | cons w ws ih =>
    obtain ⟨hnot, hrest⟩ := List.nodup_cons.mp hnodup
    have hkept := hf.window_of_notMem s hnot
    have hlater : (ws.filter fun v => (f w s).windows[v].state = k).map ((f w s).moveRecord dest) =
        (ws.filter fun v => s.windows[v].state = k).map (s.moveRecord dest) := by
      rw [List.filter_congr fun v hv => by rw [hkept v hv]]
      refine List.map_congr_left fun v hv => ?_
      rw [State.moveRecord, State.moveRecord, hkept v (List.mem_filter.mp hv).1, hf.tables]
    have hall := makes_append (hf.clock w s) (hf.makes w s) (ih (f w s) hrest)
    rw [hlater] at hall
    rw [forEach_cons, List.filter_cons]
    by_cases h : s.windows[w].state = k
    · rw [if_pos h] at hall
      rw [if_pos (decide_eq_true h)]
      exact hall
    · rw [if_neg h] at hall
      rw [if_neg (fun hd => h (of_decide_eq_true hd))]
      exact hall

end Run

/-! ## The horn -/

/-- Acknowledging makes no window with horn YES stand in ALERT. -/
theorem hornAlert_of_acked {ws : List (Fin 96)} {s : State} (hnodup : ws.Nodup)
    (h : (forEach ws (fun w s => s.ackWindow w) s).hornAlert = true) : s.hornAlert = true := by
  obtain ⟨v, hhorn, halert⟩ := (hornAlert_iff _).mp h
  rw [ackWindow_moves.run_tables] at hhorn
  exact (hornAlert_iff s).mpr ⟨v, hhorn, ackWindow_moves.run_state hnodup halert⟩

/-- A run of acknowledgements turns the horn OFF when it takes a window out of ALERT and leaves none with horn YES there
(R57): the test made at the last such window sees the windows as the run leaves them. -/
theorem acked_horn {ws : List (Fin 96)} (s : State) (hnodup : ws.Nodup) :
    (forEach ws (fun w s => s.ackWindow w) s).horn =
      if (∃ w ∈ ws, s.windows[w].state = .alert) ∧ (forEach ws (fun w s => s.ackWindow w) s).hornAlert = false then .off
      else s.horn := by
  induction ws generalizing s with
  | nil => simp
  | cons w ws ih =>
    obtain ⟨hnot, hrest⟩ := List.nodup_cons.mp hnodup
    have hkept := ackWindow_moves.window_of_notMem s hnot
    have hlater : (∃ v ∈ ws, (s.ackWindow w).windows[v].state = .alert) ↔ ∃ v ∈ ws, s.windows[v].state = .alert :=
      exists_congr fun v => and_congr_right fun hv => by rw [hkept v hv]
    rw [forEach_cons, ih (s.ackWindow w) hrest, ackWindow_horn]
    simp only [hlater, List.exists_mem_cons_iff]
    by_cases hsome : ∃ v ∈ ws, s.windows[v].state = .alert
    · cases hend : (forEach ws (fun w s => s.ackWindow w) (s.ackWindow w)).hornAlert
      · rw [if_pos ⟨hsome, rfl⟩, if_pos ⟨Or.inr hsome, rfl⟩]
      · simp [hornAlert_of_acked hrest hend]
    · have hwindows := ackWindow_moves.run_windows_of_none (s := s.ackWindow w) hrest
        fun v hv halert => hsome ⟨v, hv, hkept v hv ▸ halert⟩
      rw [hornAlert_congr (ackWindow_moves.run_tables ws _) hwindows]
      simp only [hsome, false_and, or_false, if_false]

/-! ## The windows of a target -/

theorem nodup_ascending {n : Nat} : (ascending n).Nodup := List.nodup_finRange n

theorem targetWindows_of_windowTarget {c : ConsoleFrame} (h : windowTarget c) :
    targetWindows c = some ((ascending 96).filter fun w => namesWindow c w) := by
  rcases h with hall | ⟨hone, hindex⟩
  · rw [targetWindows, if_pos hall, List.filter_eq_self.mpr fun w _ => by simp [hall]]
  · have hne : c.targetKind ≠ 1 := by rw [hone]; decide
    have hpred : ∀ w : Fin 96, decide (namesWindow c w) = (w == ⟨c.targetIndex.toNat, hindex⟩) := fun w => by
      simp [namesWindow, hone, beq_eq_decide, Fin.ext_iff, eq_comm]
    rw [targetWindows, if_neg hne, if_pos hone, index?, dif_pos hindex, Option.map_some,
      List.filter_congr fun w _ => hpred w, List.filter_beq, List.count_eq_one_of_mem nodup_ascending (mem_ascending _)]
    rfl

theorem nodup_targetWindows (c : ConsoleFrame) : ((ascending 96).filter fun w => namesWindow c w).Nodup :=
  nodup_ascending.filter _

theorem mem_targetWindows {c : ConsoleFrame} {w : Fin 96} :
    w ∈ (ascending 96).filter (fun w => namesWindow c w) ↔ namesWindow c w := by
  simp only [List.mem_filter, mem_ascending, true_and, decide_eq_true_eq]

/-! ## The command -/

/-- The run of a command over the windows that it names. -/
def State.runNamed (s : State) (c : ConsoleFrame) (f : Fin 96 → State → State) : State :=
  forEach ((ascending 96).filter fun w => namesWindow c w) f s

theorem onWindows_of_windowTarget {c : ConsoleFrame} (h : windowTarget c) (s : State) (code : Byte)
    (f : Fin 96 → State → State) : s.onWindows c code f = s.runNamed c f := by
  rw [State.onWindows, targetWindows_of_windowTarget h]
  rfl

theorem MovesWindow.runNamed_window {k : WindowState} {dest : Destination} {f : Fin 96 → State → State}
    (hf : MovesWindow k dest f) (s : State) (c : ConsoleFrame) (w : Fin 96) :
    (s.runNamed c f).windows[w] = { s.windows[w] with
      state :=
        if namesWindow c w ∧ s.windows[w].state = k then dest s.tables.window[w] s.windows[w].feeders
        else s.windows[w].state } := by
  rw [State.runNamed, hf.run_window s (nodup_targetWindows c)]
  simp only [mem_targetWindows]
  by_cases hnamed : namesWindow c w
  · simp only [hnamed, if_true, true_and]
    rfl
  · simp only [hnamed, if_false, false_and]

/-- The records tell the states that the run leaves. -/
theorem MovesWindow.runNamed_makes {k : WindowState} {dest : Destination} {f : Fin 96 → State → State}
    (hf : MovesWindow k dest f) (s : State) (c : ConsoleFrame) :
    s.makes (s.runNamed c f) (((ascending 96).filter fun w => namesWindow c w ∧ s.windows[w].state = k).map fun w =>
      .window w (s.runNamed c f).windows[w].state) := by
  have hboth : ∀ w ∈ ascending 96, (decide (s.windows[w].state = k) && decide (namesWindow c w)) =
      decide (namesWindow c w ∧ s.windows[w].state = k) := fun w _ => by rw [Bool.decide_and, Bool.and_comm]
  have hrecord : ∀ w ∈ (ascending 96).filter fun w => namesWindow c w ∧ s.windows[w].state = k,
      s.moveRecord dest w = .window w (s.runNamed c f).windows[w].state := fun w hw => by
    rw [hf.runNamed_window, if_pos (of_decide_eq_true (List.mem_filter.mp hw).2)]
    rfl
  have hmakes := hf.run_makes s (nodup_targetWindows c)
  rwa [List.filter_filter, List.filter_congr hboth, List.map_congr_left hrecord] at hmakes

/-- A matched command that takes windows out of state `k` takes those that it names, each with its record in ascending
order; the horn it leaves is that of its run. -/
theorem performConsole_moves {k : WindowState} {dest : Destination} {f : Fin 96 → State → State}
    (hf : MovesWindow k dest f) {s : State} {c : ConsoleFrame} (code : Byte) (hobeys : s.obeys c)
    (htarget : windowTarget c) :
    ∃ t, performConsole s c code (fun s => s.onWindows c code f) = .next t ∧ s.passes t c.port (consoleFrame c code) ∧
      s.sameButDisplay t ∧
      (∀ w : Fin 96, t.windows[w] = { s.windows[w] with
        state :=
          if namesWindow c w ∧ s.windows[w].state = k then dest s.tables.window[w] s.windows[w].feeders
          else s.windows[w].state }) ∧
      t.horn = (s.runNamed c f).horn ∧ t.hornAlert = (s.runNamed c f).hornAlert ∧
      s.makes t (((ascending 96).filter fun w => namesWindow c w ∧ s.windows[w].state = k).map fun w =>
        .window w t.windows[w].state) := by
  have hview : (s.runNamed c f).offWindows = s.offWindows := hf.run_view _ s
  have hact := onWindows_of_windowTarget htarget s code f
  obtain ⟨t, hnext, hpasses, ht⟩ := performConsole_obeyed (code := code) (act := fun s => s.onWindows c code f) hobeys
    fun q => by rw [hact]; exact port_of_offWindows hview q
  rw [hact] at ht
  have htables : t.tables = (s.runNamed c f).tables := by rw [ht]
  have hwindows : t.windows = (s.runNamed c f).windows := by rw [ht]
  refine ⟨t, hnext, hpasses, ?_, fun w => ?_, by rw [ht], hornAlert_congr htables hwindows, ?_⟩
  · rw [eq_of_offWindows hview] at ht
    rw [State.sameButDisplay, ht]
  · rw [hwindows, hf.runNamed_window]
  · obtain ⟨hreports, hlost⟩ := hf.runNamed_makes s c
    rw [← hwindows] at hreports hlost
    exact ⟨(congrArg State.reports ht).trans hreports, (congrArg State.lost ht).trans hlost⟩

/-- Settles O29: ACK and RESET are runs over the windows they name; ACK tests the horn as it goes, and RESET does not touch
it. -/
theorem ackAndResetTakeNamedWindows : Obligations.AckAndResetTakeNamedWindows := by
  refine ⟨fun s c hobeys htarget => ?_, fun s c hobeys htarget => ?_⟩
  · obtain ⟨t, hnext, hpasses, hframe, hwindow, hhorn, hhornAlert, hmakes⟩ :=
      performConsole_moves ackWindow_moves 1 hobeys htarget
    refine ⟨t, hnext, hpasses, hframe, fun w => ?_, ?_, hmakes⟩
    · rw [hwindow, ackedState_eq]
    · rw [hhorn, hhornAlert, State.runNamed, acked_horn s (nodup_targetWindows c)]
      simp only [mem_targetWindows]
  · obtain ⟨t, hnext, hpasses, hframe, hwindow, hhorn, -, hmakes⟩ :=
      performConsole_moves resetWindow_moves 2 hobeys htarget
    refine ⟨t, hnext, hpasses, hframe, ?_, hwindow, ?_⟩
    · rw [hhorn]
      exact forEach_eq _ s fun w _ s => resetWindow_horn s w
    · have hquiet : ∀ w ∈ (ascending 96).filter fun w => namesWindow c w ∧ s.windows[w].state = .clearWait,
          ReportBody.window w t.windows[w].state = .window w .quiet := fun w hw => by
        rw [hwindow, if_pos (of_decide_eq_true (List.mem_filter.mp hw).2)]
      rwa [List.map_congr_left hquiet] at hmakes

end Sys2Proof.Machine
end

section
/-! WRITE to the WINDOW, PALETTE and LAMP-MASK tables (R40, R57, R122, R129). An accepted WRITE is its table's own effect
and the read pointer behind the record; the effects of the three tables are said one by one. -/

namespace Sys2Proof.Machine

/-! ## What every accepted WRITE shares -/

/-- A WRITE of the right length whose index and values are in range is its table's own affair. -/
theorem judgeWrite_accepted {α : Type} {n : Nat} {s : State} {i : Fin n} {x : α} {rec : List Byte}
    {parse : List Byte → Option (Option α)} (own : Fin n → α → Judgement) (hn : n ≤ 256)
    (hflight : s.management.flight = none) (hparse : parse rec = some (some x)) :
    s.judgeWrite n (byteOf i.val :: rec) parse own = own i x := by
  simp only [State.judgeWrite, hparse, unlessFlight, hflight, index?_byteOf i hn, Option.isSome_none,
    Bool.false_eq_true, if_false]

/-- An admitted request moves its own port alone before it is judged. -/
theorem asTaken_view (s : State) (r : Request) :
    s.asTaken r = { s with field := (s.asTaken r).field, station := (s.asTaken r).station } := modPort_view _ _ _

/-- An accepted WRITE whose effect reaches the tables, the display and health alone answers DONE and leaves that effect,
with the read pointer behind the record. -/
theorem performWrite_accepted {α : Type} {n : Nat} {s : State} {r : Request} {i : Fin n} {x : α} {rec : List Byte}
    {parse : List Byte → Option (Option α)} {write : State → Fin n → α → State} (table : TableId) (hn : n ≤ 256)
    (hadmits : s.admits r.port) (hflight : s.management.flight = none) (hargs : r.args = byteOf i.val :: rec)
    (hparse : parse rec = some (some x))
    (hview : ∀ s, ∃ g, (write s i x).offHealth = (s.modTables g).offHealth) :
    ∃ t, performWrite s r table (fun s => s.judgeWrite n r.args parse fun i x => written (write s i x) table i.val) =
        .next t ∧
      s.answers t r .done [] ∧
      t = { write (s.asTaken r) i x with
        management := s.management.pointed table i.val, field := t.field, station := t.station } := by
  have hjudge : (s.asTaken r).judgeWrite n r.args parse (fun i x => written (write (s.asTaken r) i x) table i.val) =
      answer ((write (s.asTaken r) i x).setPointer table (i.val + 1)) [] := by
    rw [hargs, judgeWrite_accepted _ hn (by rw [modPort_management, hflight]) hparse]
    rfl
  obtain ⟨g, hkept⟩ := hview (s.asTaken r)
  have hports : ∀ q, (write (s.asTaken r) i x).port q = (s.asTaken r).port q := by
    rintro (_ | _)
    · exact (congrArg State.field hkept :)
    · exact (congrArg State.station hkept :)
  have hstraps : (write (s.asTaken r) i x).straps = (s.asTaken r).straps := (congrArg State.straps hkept :)
  have hmanagement : (write (s.asTaken r) i x).management = (s.asTaken r).management :=
    (congrArg State.management hkept :)
  obtain ⟨t, hnext, ht, hanswers⟩ := performRequest_done
    (a := { code := 3, table := some table.code, index := r.args.head? })
    (judge := fun s => s.judgeWrite n r.args parse fun i x => written (write s i x) table i.val) hadmits hjudge
    (fun q => (by cases q <;> rfl : _ = (write (s.asTaken r) i x).port q).trans (hports q))
    (hstraps.trans (modPort_straps _ _ _))
  refine ⟨t, hnext, hanswers, ht.trans ?_⟩
  simp only [State.setPointer, hmanagement, modPort_management]
  rfl

/-! ## WINDOW -/

theorem writeWindow_view (s : State) (w : Fin 96) (x : WindowRecord) :
    (s.writeWindow w x).offWindows = (s.modTables fun t => { t with window := upd t.window w fun _ => x }).offWindows := by
  unfold State.writeWindow
  dsimp only
  split
  · exact hornCheck_view _
  · rfl

/-- A WINDOW write replaces the record, and turns the horn OFF when it takes horn YES from a window in ALERT and leaves no
window with horn YES there. -/
theorem writeWindow_eq (s : State) (w : Fin 96) (x : WindowRecord) :
    s.writeWindow w x = { s with
      tables := { s.tables with window := upd s.tables.window w fun _ => x }
      horn :=
        if s.tables.window[w].horn = true ∧ x.horn = false ∧ s.windows[w].state = .alert ∧
          (s.writeWindow w x).hornAlert = false then .off else s.horn } := by
  by_cases h : (s.tables.window[w].horn && !x.horn && s.windows[w].state = .alert) = true
  · have hwrite : s.writeWindow w x =
        (s.modTables fun t => { t with window := upd t.window w fun _ => x }).hornCheck := if_pos h
    simp only [Bool.and_eq_true, Bool.not_eq_true', decide_eq_true_eq, and_assoc] at h
    rw [hwrite, hornCheck_hornAlert, hornCheck_eq]
    simp only [h, true_and]
    rfl
  · have hwrite : s.writeWindow w x = s.modTables fun t => { t with window := upd t.window w fun _ => x } := if_neg h
    have hnot : ¬(s.tables.window[w].horn = true ∧ x.horn = false ∧ s.windows[w].state = .alert ∧
        (s.writeWindow w x).hornAlert = false) := fun ⟨hbefore, hafter, halert, _⟩ =>
      h (by rw [hbefore, hafter, halert]; rfl)
    rw [if_neg hnot, hwrite]
    rfl

/-! ## LAMP-MASK -/

theorem lampFaultPresent_iff (s : State) :
    s.lampFaultPresent = true ↔ ∃ v : Fin 96, s.tables.lampMask[v] = false ∧ s.lamps[v].fault ≠ none := by
  simp [State.lampFaultPresent, mem_ascending, Option.isSome_iff_ne_none]

/-- Without an unmasked fault the evaluation of LAMP-FAULT does nothing (R129). -/
theorem evaluateLampFault_of_absent {s : State} (h : s.lampFaultPresent = false) : s.evaluateLampFault = s := by
  rw [State.evaluateLampFault, h]
  rfl

theorem evaluateLampFault_flags {s : State} (h : s.lampFaultPresent = true) :
    s.evaluateLampFault.health.flags = s.health.flags ||| BitVec.twoPow 11 4 := by
  rw [State.evaluateLampFault, if_pos h]
  exact setFlag_flags s flagLampFault

/-- The part with a lamp's mask replaced, before LAMP-FAULT is evaluated. -/
def State.withLampMask (s : State) (w : Fin 96) (m : Bool) : State :=
  s.modTables fun t => { t with lampMask := upd t.lampMask w fun _ => m }

theorem writeLampMask_eq (s : State) (w : Fin 96) (m : Bool) :
    s.writeLampMask w m = (s.withLampMask w m).evaluateLampFault := rfl

theorem writeLampMask_view (s : State) (w : Fin 96) (m : Bool) :
    (s.writeLampMask w m).offHealth = (s.withLampMask w m).offHealth := evaluateLampFault_view _

/-- What keeps the view changes health, windows, horn and records alone. -/
theorem eq_of_offHealth {s t : State} (h : t.offHealth = s.offHealth) :
    t = { s with
      health := t.health, windows := t.windows, horn := t.horn, reports := t.reports, lost := t.lost } := by
  calc t = { t.offHealth with
        health := t.health, windows := t.windows, horn := t.horn, reports := t.reports, lost := t.lost } := rfl
    _ = { s.offHealth with
        health := t.health, windows := t.windows, horn := t.horn, reports := t.reports, lost := t.lost } := by rw [h]
    _ = _ := rfl

/-! ## The requests -/

theorem writeWindow_accepted {s : State} {r : Request} {w : Fin 96} {x : WindowRecord} (hadmits : s.admits r.port)
    (hflight : s.management.flight = none) (hargs : r.args = byteOf w.val :: x.bytes) :
    ∃ t, exec (.writeWindow r) s = .next t ∧ s.answers t r .done [] ∧
      t = { s with
        tables := { s.tables with window := upd s.tables.window w fun _ => x }
        horn :=
          if s.tables.window[w].horn = true ∧ x.horn = false ∧ s.windows[w].state = .alert ∧ t.hornAlert = false
          then .off else s.horn
        management := s.management.pointed .window w.val, field := t.field, station := t.station } := by
  obtain ⟨t, hnext, hanswers, ht⟩ := performWrite_accepted (write := State.writeWindow) .window (by decide) hadmits
    hflight hargs (parseWindow_bytes x) fun s => ⟨_, offHealth_of (writeWindow_view s w x)⟩
  have hhornAlert : t.hornAlert = ((s.asTaken r).writeWindow w x).hornAlert :=
    hornAlert_congr (by rw [ht]) (by rw [ht])
  refine ⟨t, hnext, hanswers, ht.trans ?_⟩
  rw [writeWindow_eq, ← hhornAlert, asTaken_view]

theorem writePalette_accepted {s : State} {r : Request} {i : Fin 8} {x : Colour} (hadmits : s.admits r.port)
    (hflight : s.management.flight = none) (hargs : r.args = byteOf i.val :: x.bytes) :
    ∃ t, exec (.writePalette r) s = .next t ∧ s.answers t r .done [] ∧
      t = { s with
        tables := { s.tables with palette := upd s.tables.palette i fun _ => x }
        management := s.management.pointed .palette i.val, field := t.field, station := t.station } := by
  obtain ⟨t, hnext, hanswers, ht⟩ := performWrite_accepted (write := State.writeColour) .palette (by decide) hadmits
    hflight hargs (parseColour_bytes x) fun s => ⟨_, rfl⟩
  refine ⟨t, hnext, hanswers, ht.trans ?_⟩
  rw [asTaken_view]
  rfl

/-- A LAMP-MASK write reaches the Health Monitor behind the new mask, through LAMP-FAULT alone. -/
theorem writeLampMask_accepted {s : State} {r : Request} {w : Fin 96} {m : Bool} (hadmits : s.admits r.port)
    (hflight : s.management.flight = none) (hargs : r.args = [byteOf w.val, flagByte m]) :
    ∃ t, exec (.writeLampMask r) s = .next t ∧ s.answers t r .done [] ∧
      t = { ((s.asTaken r).withLampMask w m).evaluateLampFault with
        management := s.management.pointed .lampMask w.val, field := t.field, station := t.station } :=
  performWrite_accepted (write := State.writeLampMask) .lampMask (by decide) hadmits hflight hargs (parseLampMask_bytes m)
    fun s => ⟨_, writeLampMask_view s w m⟩

/-- What such a write leaves alone: its answer and its pointer apart, everything but what the Health Monitor moves. -/
theorem sameButHealth_of_evaluateLampFault {s t : State} {r : Request} {w : Fin 96} {m : Bool} {x : Management}
    (ht : t = { ((s.asTaken r).withLampMask w m).evaluateLampFault with
      management := x, field := t.field, station := t.station }) :
    { s with
      tables := { s.tables with lampMask := upd s.tables.lampMask w fun _ => m }, management := x }.sameButHealth t := by
  have hkept : t.offHealth = { s.withLampMask w m with
      management := x, field := t.field, station := t.station }.offHealth := by
    calc t.offHealth = { ((s.asTaken r).withLampMask w m).evaluateLampFault.offHealth with
          management := x, field := t.field, station := t.station } := congrArg State.offHealth ht
      _ = _ := by rw [evaluateLampFault_view, asTaken_view]; rfl
  rw [State.sameButHealth, eq_of_offHealth hkept]
  rfl

/-- Settles O44: each WRITE is its table's effect; for LAMP-MASK, the evaluation of LAMP-FAULT behind the new mask. -/
theorem writeDisplayTablesAccepted : Obligations.WriteDisplayTablesAccepted := by
  refine ⟨fun s r hadmits hflight => ⟨fun w x hargs => writeWindow_accepted hadmits hflight hargs,
    fun i x hargs => writePalette_accepted hadmits hflight hargs⟩, fun s r w m hadmits hflight hargs => ?_⟩
  obtain ⟨t, hnext, hanswers, ht⟩ := writeLampMask_accepted hadmits hflight hargs
  have hframe := sameButHealth_of_evaluateLampFault ht
  have htables : ((s.asTaken r).withLampMask w m).tables = t.tables := by rw [hframe, asTaken_view]; rfl
  have hlamps : ((s.asTaken r).withLampMask w m).lamps = s.lamps := modPort_lamps _ _ _
  have hpresent := lampFaultPresent_iff ((s.asTaken r).withLampMask w m)
  rw [htables, hlamps] at hpresent
  refine ⟨t, hnext, hanswers, hframe, fun hfault => ?_, fun hnone => ?_⟩
  · rw [ht]
    exact (evaluateLampFault_flags (hpresent.mpr hfault)).trans (by rw [asTaken_view]; rfl)
  · have habsent : ((s.asTaken r).withLampMask w m).lampFaultPresent = false := by
      rw [← Bool.not_eq_true, hpresent]
      rintro ⟨v, hunmasked, hfault⟩
      obtain hmasked | hclear := hnone v
      · rw [hmasked] at hunmasked
        cases hunmasked
      · exact hfault hclear
    rw [ht, evaluateLampFault_of_absent habsent, asTaken_view]
    exact ⟨rfl, rfl, rfl, rfl⟩

end Sys2Proof.Machine
end

section
/-! First-out groups and the pulse timer: the freeze (R70), the group reset by EXECUTE and by a GROUP write (R63, R74, R113),
and the end of a pulse (R91). Each is an update of the part with a run of records behind it, so that one law for each kind of
step carries it to the step's end. -/

namespace Sys2Proof.Machine

/-! ## Timers that run out -/

theorem Timer.isDue_iff (x : Timer) : x.isDue = true ↔ x = .running 0 := by
  rw [Timer.isDue, decide_eq_true_iff]

/-! ## The freeze -/

/-- The window that a freeze marks: that of the first entry's point, if there is one (R51, R70). -/
def State.verdictWindow (s : State) (g : Fin 8) : Option (Fin 96) :=
  s.groups[g].entries.head?.bind fun e => s.tables.point[e.point].window

theorem verdictWindow_of_nil {s : State} {g : Fin 8} (h : s.groups[g].entries = []) : s.verdictWindow g = none := by
  rw [State.verdictWindow, h]
  rfl

theorem verdictWindow_of_cons {s : State} {g : Fin 8} {first : Entry} {rest : List Entry}
    (h : s.groups[g].entries = first :: rest) : s.verdictWindow g = s.tables.point[first.point].window := by
  rw [State.verdictWindow, h]
  rfl

theorem freezeGroup_of_no_verdict {s : State} {g : Fin 8} (h : s.verdictWindow g = none) :
    s.freezeGroup g =
      (s.modGroup g fun v => { v with state := .frozen, settle := .stopped, marker := none }).emit (.group g .frozen) := by
  unfold State.freezeGroup
  cases hentries : s.groups[g].entries with
  | nil => rfl
  | cons first rest =>
    rw [verdictWindow_of_cons hentries] at h
    simp only [h]

theorem freezeGroup_of_verdict {s : State} {g : Fin 8} {w : Fin 96} (h : s.verdictWindow g = some w) :
    s.freezeGroup g =
      ((s.modGroup g fun v => { v with state := .frozen, settle := .stopped, marker := some w }).modWindow w fun v =>
        { v with markers := addToSet v.markers g.val }).emit (.group g .frozen) := by
  unfold State.freezeGroup
  cases hentries : s.groups[g].entries with
  | nil => cases (verdictWindow_of_nil hentries).symm.trans h
  | cons first rest =>
    rw [verdictWindow_of_cons hentries] at h
    simp only [h]

/-- The freeze is one update and its record (R70). -/
theorem freezeGroup_eq (s : State) (g : Fin 8) : ∃ u : State,
    s.freezeGroup g = [ReportBody.group g .frozen].foldl State.emit u ∧
    u = { s with
      groups := upd s.groups g fun v => { v with state := .frozen, settle := .stopped, marker := s.verdictWindow g }
      windows := u.windows } ∧
    ∀ w : Fin 96, u.windows[w] =
      if s.verdictWindow g = some w then { s.windows[w] with markers := s.windows[w].markers ||| BitVec.twoPow 8 g.val }
      else s.windows[w] := by
  cases hverdict : s.verdictWindow g with
  | none => exact ⟨_, freezeGroup_of_no_verdict hverdict, rfl, fun w => rfl⟩
  | some v =>
    refine ⟨_, freezeGroup_of_verdict hverdict, rfl, fun w => ?_⟩
    rw [modWindow_windows, modGroup_windows, upd_get]
    simp only [Option.some.injEq]
    split
    · subst_vars; rfl
    · rfl

theorem settleTimerExpiry_passesOver {s : State} {g : Fin 8} (hrunning : s.phase = .running)
    (hnot : s.groups[g].settle ≠ .running 0) : s.passesOver (.settleTimerExpiry g) :=
  perform_passed hrunning (if_neg fun hdue => hnot ((Timer.isDue_iff _).mp hdue))

/-! ## The pulse's end -/

/-- The end of a pulse is one update and its record (R91, R132). -/
theorem endPulse_eq (s : State) (c : Fin 8) :
    s.endPulse c = [ReportBody.trip c .lockout].foldl State.emit { s with
      channels := upd s.channels c (fun v => { v with state := .lockout, pulse := .stopped })
      coils := upd s.coils c (fun v => { v with run := none }) } := rfl

/-- The occasion of a pulse's end: a FIRING channel whose pulse timer has run out. -/
theorem pulseEnds_iff (v : Channel) :
    (v.state = .firing && v.pulse.isDue) = true ↔ v.state = .firing ∧ v.pulse = .running 0 := by
  rw [Bool.and_eq_true, decide_eq_true_iff, Timer.isDue_iff]

theorem pulseTimerExpiry_passesOver {s : State} {c : Fin 8} (hrunning : s.phase = .running)
    (hnot : s.channels[c].state ≠ .firing ∨ s.channels[c].pulse ≠ .running 0) : s.passesOver (.pulseTimerExpiry c) :=
  perform_passed hrunning (if_neg fun hends =>
    have ⟨hfiring, hdue⟩ := (pulseEnds_iff _).mp hends
    hnot.elim (· hfiring) (· hdue))

/-- A channel out of FIRING has its output off (R87). -/
theorem tripOutput_of_not_firing {s : State} {c : Fin 8} (h : s.channels[c].state ≠ .firing) : s.tripOutput c = false := by
  rw [State.tripOutput, decide_eq_false h, Bool.and_false]

/-- Settles O27: the freeze and the pulse's end are each one update and one record; without its occasion neither comes
about. -/
theorem settleAndPulseTimersEnd : Obligations.SettleAndPulseTimersEnd := by
  refine ⟨fun s g hrunning => ⟨settleTimerExpiry_passesOver hrunning, fun hdue => ?_⟩,
    fun s c hrunning => ⟨pulseTimerExpiry_passesOver hrunning, fun hfiring hdue => ?_⟩⟩
  · obtain ⟨u, hfreeze, hu, hwindow⟩ := freezeGroup_eq s g
    obtain ⟨t, hnext, hidle, ht, hmakes⟩ := perform_makes hrunning
      ((if_pos ((Timer.isDue_iff _).mpr hdue)).trans hfreeze)
      (fun q => by rw [hu]; cases q <;> rfl) (by rw [hu]) (by rw [hu]) (by rw [hu])
    have hgroups : t.groups = u.groups := by rw [ht]
    have hwindows : t.windows = u.windows := by rw [ht]
    refine ⟨t, hnext, hidle, hmakes, ?_, ?_, fun w => ?_⟩
    · rw [hgroups, hwindows, ht, hu]
    · rw [hgroups, hu]
      rfl
    · rw [hwindows, hwindow]
      rfl
  · obtain ⟨t, hnext, hidle, ht, hmakes⟩ := perform_makes hrunning
      ((if_pos ((pulseEnds_iff _).mpr ⟨hfiring, hdue⟩)).trans (endPulse_eq s c)) (fun q => by cases q <;> rfl) rfl rfl rfl
    refine ⟨t, hnext, hidle, hmakes, ht, tripOutput_of_not_firing ?_⟩
    rw [ht, upd_self]
    simp

/-! ## EXECUTE of a group -/

/-- An EXECUTE that equals the held selection empties the slot and hands the target to its owner (R113). -/
theorem takeExecute_of_held {s : State} {c : ConsoleFrame} {h : Selection} (hheld : s.selection = some h)
    (hconsole : h.console = c.console) (hnames : namesTarget c h.target) :
    s.takeExecute c = s.emptySlot.performTarget c h.target := by
  rw [State.takeExecute, hheld]
  exact if_pos ⟨hconsole, (target_of_iff c h.target).mpr hnames⟩

/-- Settles O33: an EXECUTE of the held group selection is a group reset behind the emptied slot. -/
theorem executeResetsGroup : Obligations.ExecuteResetsGroup := by
  intro s c h g hobeys hheld hconsole htarget hnames
  obtain ⟨u, hreset, hu, hwindow⟩ := resetGroup_eq s.emptySlot g
  have heffect : s.takeExecute c = [ReportBody.group g .armed].foldl State.emit u := by
    rw [takeExecute_of_held hheld hconsole (htarget ▸ hnames), htarget, ← hreset]
    rfl
  obtain ⟨t, hnext, hpasses, ht, hmakes⟩ := performConsole_makes (code := 7) (act := fun s => s.takeExecute c) hobeys
    heffect (fun q => by rw [hu]; cases q <;> rfl) (by rw [hu]; rfl) (by rw [hu]; rfl) (by rw [hu]; rfl)
  have hgroups : t.groups = u.groups := by rw [ht]
  have hwindows : t.windows = u.windows := by rw [ht]
  refine ⟨t, hnext, hpasses, hmakes, ?_, ?_, fun w => ?_⟩
  · rw [State.sameButReports, hgroups, hwindows, ht, hu]
    rfl
  · rw [hgroups, hu]
    rfl
  · rw [hwindows, hwindow]
    rfl

/-! ## GROUP -/

/-- An accepted WRITE whose effect is an update of tables, groups and windows alone, with a run of records behind it. -/
theorem performWrite_makes {α : Type} {n : Nat} {s u : State} {r : Request} {i : Fin n} {x : α} {rec : List Byte}
    {l : List ReportBody} {parse : List Byte → Option (Option α)} {write : State → Fin n → α → State} (table : TableId)
    (hn : n ≤ 256) (hadmits : s.admits r.port) (hflight : s.management.flight = none) (hargs : r.args = byteOf i.val :: rec)
    (hparse : parse rec = some (some x)) (hwrite : write (s.asTaken r) i x = l.foldl State.emit u)
    (hu : u = { s.asTaken r with tables := u.tables, groups := u.groups, windows := u.windows }) :
    ∃ t, performWrite s r table (fun s => s.judgeWrite n r.args parse fun i x => written (write s i x) table i.val) =
        .next t ∧
      s.answers t r .done [] ∧
      t = { s with
        tables := u.tables, groups := u.groups, windows := u.windows, reports := t.reports, lost := t.lost
        management := s.management.pointed table i.val, field := t.field, station := t.station } ∧
      s.makes t l := by
  have hjudge : (s.asTaken r).judgeWrite n r.args parse (fun i x => written (write (s.asTaken r) i x) table i.val) =
      answer ((l.foldl State.emit u).setPointer table (i.val + 1)) [] := by
    rw [hargs, judgeWrite_accepted _ hn (by rw [modPort_management, hflight]) hparse, hwrite]
    rfl
  obtain ⟨t, hnext, ht, hanswers⟩ := performRequest_done
    (a := { code := 3, table := some table.code, index := r.args.head? })
    (judge := fun s => s.judgeWrite n r.args parse fun i x => written (write s i x) table i.val) hadmits hjudge
    (fun q => by rw [emits_view, hu]; cases q <;> rfl) (by rw [emits_view, hu]; exact modPort_straps _ _ _)
  obtain ⟨hreports, hlost⟩ := emits_congr l (s := s) (u := u) (by rw [hu]; exact modPort_reports _ _ _)
    (by rw [hu]; exact modPort_lost _ _ _) (by rw [hu]; exact modPort_clock _ _ _)
  refine ⟨t, hnext, hanswers, ?_, ?_, ?_⟩
  · rw [emits_view, hu, asTaken_view] at ht
    rw [ht]
    rfl
  · rw [ht]; exact hreports
  · rw [ht]; exact hlost

/-- The part with a group's record replaced, before any reset of the group. -/
def State.withGroupRecord (s : State) (g : Fin 8) (x : GroupRecord) : State :=
  s.modTables fun t => { t with group := upd t.group g fun _ => x }

/-- A GROUP write that disables the group resets it behind its new record (R63). -/
theorem writeGroup_of_disables {s : State} {g : Fin 8} {x : GroupRecord}
    (h : s.tables.group[g].enable = true ∧ x.enable = false) :
    s.writeGroup g x = (s.withGroupRecord g x).resetGroup g := by
  obtain ⟨hbefore, hafter⟩ := h
  exact if_pos (by rw [hbefore, hafter]; rfl)

theorem writeGroup_of_not_disables {s : State} {g : Fin 8} {x : GroupRecord}
    (h : ¬(s.tables.group[g].enable = true ∧ x.enable = false)) : s.writeGroup g x = s.withGroupRecord g x :=
  if_neg (by simpa using h)

/-- A GROUP write other than from enable YES to NO leaves groups and windows, and offers no report record (R63). -/
theorem writeGroup_accepted_of_not_disables {s : State} {r : Request} {g : Fin 8} {x : GroupRecord}
    (hadmits : s.admits r.port) (hflight : s.management.flight = none) (hrange : x.inRange)
    (hargs : r.args = byteOf g.val :: x.bytes) (hkeeps : ¬(s.tables.group[g].enable = true ∧ x.enable = false)) :
    ∃ t, exec (.writeGroup r) s = .next t ∧ s.answers t r .done [] ∧
      t = { s with
        tables := { s.tables with group := upd s.tables.group g fun _ => x }
        reports := t.reports, lost := t.lost
        management := s.management.pointed .group g.val, field := t.field, station := t.station } ∧
      s.makes t [] := by
  have hwrite : (s.asTaken r).writeGroup g x = [].foldl State.emit ((s.asTaken r).withGroupRecord g x) :=
    writeGroup_of_not_disables (by rwa [modPort_tables])
  obtain ⟨t, hnext, hanswers, ht, hmakes⟩ := performWrite_makes (write := State.writeGroup) .group (by decide) hadmits
    hflight hargs (parseGroup_bytes hrange) hwrite rfl
  refine ⟨t, hnext, hanswers, ht.trans ?_, hmakes⟩
  rw [asTaken_view]
  rfl

/-- Settles O45: the record is replaced, and a group reset follows where the write disables the group. -/
theorem writeGroupAccepted : Obligations.WriteGroupAccepted := by
  intro s r g x hadmits hflight hrange hargs disables
  by_cases hdisables : disables
  · obtain ⟨u, hreset, hu, hwindow⟩ := resetGroup_eq ((s.asTaken r).withGroupRecord g x) g
    have hwrite : (s.asTaken r).writeGroup g x = [ReportBody.group g .armed].foldl State.emit u :=
      (writeGroup_of_disables (by rwa [modPort_tables])).trans hreset
    obtain ⟨t, hnext, hanswers, ht, hmakes⟩ := performWrite_makes (write := State.writeGroup) .group (by decide) hadmits
      hflight hargs (parseGroup_bytes hrange) hwrite (by rw [hu]; rfl)
    have hgroups : t.groups = u.groups := by rw [ht]
    have hwindows : t.windows = u.windows := by rw [ht]
    refine ⟨t, hnext, hanswers, ?_, fun hnot => absurd hdisables hnot, fun _ => ⟨hmakes, ?_, fun w => ?_⟩⟩
    · have htables : u.tables = { s.tables with group := upd s.tables.group g fun _ => x } := by
        rw [hu, asTaken_view]; rfl
      rw [hgroups, hwindows, ← htables]
      exact ht
    · rw [hgroups, hu, asTaken_view]
      rfl
    · rw [hwindows, hwindow, asTaken_view]
      rfl
  · obtain ⟨t, hnext, hanswers, ht, hmakes⟩ := writeGroup_accepted_of_not_disables hadmits hflight hrange hargs hdisables
    have hgroups : t.groups = s.groups := by rw [ht]
    have hwindows : t.windows = s.windows := by rw [ht]
    refine ⟨t, hnext, hanswers, ?_, fun _ => ⟨hgroups, hwindows, hmakes⟩, fun hyes => absurd hyes hdisables⟩
    rw [hgroups, hwindows]
    exact ht

end Sys2Proof.Machine
end

section
/-! EXECUTE of a channel selection (R94, R95): the Trip Unit's answer by the channel's state and count, and the accepted
reset, which is one update of the part, its TRIP record, and the deactivation of the channel's window feeder. -/

namespace Sys2Proof.Machine

/-! ## Records -/

/-- What a record makes of the queue depends on the queue and the clock alone. -/
theorem emit_reports_congr {s u : State} {b : ReportBody} (hreports : u.reports = s.reports) (hclock : u.clock = s.clock) :
    (u.emit b).reports = (s.emit b).reports := by
  unfold State.emit
  rw [hreports, hclock]
  split <;> rfl

/-! ## The window that a channel's record names -/

/-- A deactivation at the window a record names, seen at each window (R45). -/
theorem deactivateAt_window (s : State) (target : Option (Fin 96)) (f : Feeder) (w : Fin 96) :
    (s.deactivateAt target f).windows[w] =
      if target = some w then
        { s.windows[w] with
          feeders := leaveFeeder f s.windows[w].feeders
          state :=
            if leaveFeeder f s.windows[w].feeders = [] ∧ s.windows[w].state = .held then clearedState s.tables.window[w]
            else s.windows[w].state }
      else s.windows[w] := by
  cases target with
  | none => rfl
  | some v =>
    simp only [Option.some.injEq]
    exact deactivate_window s v f w

theorem deactivateAt_horn (s : State) (target : Option (Fin 96)) (f : Feeder) : (s.deactivateAt target f).horn = s.horn := by
  cases target with
  | none => rfl
  | some v => exact deactivate_horn s v f

/-- A deactivation keeps the records that wait. -/
theorem deactivate_prefix (s : State) (w : Fin 96) (f : Feeder) : s.reports <+: (s.deactivate w f).reports := by
  unfold State.deactivate
  dsimp only
  split
  · exact emit_prefix ((s.modWindow w _).modWindow w _) _
  · exact List.prefix_rfl

theorem deactivateAt_prefix (s : State) (target : Option (Fin 96)) (f : Feeder) :
    s.reports <+: (s.deactivateAt target f).reports := by
  cases target with
  | none => exact List.prefix_rfl
  | some v => exact deactivate_prefix s v f

theorem clearedState_eq (r : WindowRecord) : clearedState r = if r.sequence = .manual then .clearWait else .quiet := by
  unfold clearedState
  cases r.sequence <;> rfl

/-! ## The answer of R94 -/

theorem judgeReset_of_lockout {s : State} {c : Fin 8} (h : s.channels[c].state = .lockout) :
    s.judgeReset c =
      if s.channels[c].count < s.tables.trip[c].required then none else some .conditionPresent := by
  rw [State.judgeReset, h]

theorem judgeReset_of_firing {s : State} {c : Fin 8} (h : s.channels[c].state = .firing) :
    s.judgeReset c = some .firing := by
  rw [State.judgeReset, h]

theorem judgeReset_of_idle {s : State} {c : Fin 8} (hlockout : s.channels[c].state ≠ .lockout)
    (hfiring : s.channels[c].state ≠ .firing) : s.judgeReset c = some .notLocked := by
  unfold State.judgeReset
  split
  · exact absurd ‹_› hlockout
  · exact absurd ‹_› hfiring
  · rfl

/-! ## The accepted reset (R95) -/

/-- The state of a channel below K is its permit's (R88). -/
theorem nextChannelState_of_below (st : ChannelState) (permit : Bool) {count required : Nat} (h : count < required) :
    nextChannelState st permit count required = if permit then .ready else .disarmed := by
  unfold nextChannelState
  cases permit
  · rfl
  · exact if_pos h

/-- The part with a channel out of LOCKOUT in a state, and its lockout record CLEAR. -/
def State.outOfLockout (s : State) (c : Fin 8) (st : ChannelState) : State :=
  (s.writeLockout c false).modChannel c fun v => { v with state := st }

theorem acceptReset_eq {s : State} {c : Fin 8} (h : s.channels[c].count < s.tables.trip[c].required) :
    s.acceptReset c =
      let st : ChannelState := if s.channels[c].permit then .ready else .disarmed
      ((s.outOfLockout c st).emit (.trip c st)).deactivateAt s.tables.trip[c].window (.channel c) := by
  unfold State.acceptReset
  simp only [nextChannelState_of_below _ _ h, emit_tables]
  rfl

/-- An accepted reset beside windows and records: the channel and its lockout record move, and nothing else. -/
theorem acceptReset_offWindows {s : State} {c : Fin 8} (h : s.channels[c].count < s.tables.trip[c].required) :
    (s.acceptReset c).offWindows =
      (s.outOfLockout c (if s.channels[c].permit then .ready else .disarmed)).offWindows := by
  rw [acceptReset_eq h]
  exact (deactivateAt_view _ _ _).trans (emit_view _ _)

theorem acceptReset_horn {s : State} {c : Fin 8} (h : s.channels[c].count < s.tables.trip[c].required) :
    (s.acceptReset c).horn = s.horn := by
  rw [acceptReset_eq h]
  exact (deactivateAt_horn _ _ _).trans (emit_horn _ _)

/-- The TRIP record of an accepted reset comes before any WINDOW record (R95). -/
theorem acceptReset_prefix {s : State} {c : Fin 8} (h : s.channels[c].count < s.tables.trip[c].required) :
    (s.emit (.trip c (if s.channels[c].permit then .ready else .disarmed))).reports <+: (s.acceptReset c).reports := by
  rw [acceptReset_eq h, ← emit_reports_congr (s := s) (u := s.outOfLockout c _) rfl rfl]
  exact deactivateAt_prefix _ _ _

/-- An accepted reset at each window: the channel's feeder leaves the window its record names (R45, R95, R98). -/
theorem acceptReset_window {s : State} {c : Fin 8} (h : s.channels[c].count < s.tables.trip[c].required) (w : Fin 96) :
    (s.acceptReset c).windows[w] =
      if s.tables.trip[c].window = some w then
        { s.windows[w] with
          feeders := leaveFeeder (.channel c) s.windows[w].feeders
          state :=
            if leaveFeeder (.channel c) s.windows[w].feeders = [] ∧ s.windows[w].state = .held then
              if s.tables.window[w].sequence = .manual then .clearWait else .quiet
            else s.windows[w].state }
      else s.windows[w] := by
  rw [acceptReset_eq h]
  simp only [deactivateAt_window, emit_windows, emit_tables, clearedState_eq]
  rfl

/-! ## EXECUTE of a channel -/

/-- A reset that the Trip Unit refuses empties the slot, makes the record of R118, and changes nothing else. -/
theorem executeTrip_refused {s : State} {c : ConsoleFrame} {h : Selection} {n : Fin 8} {why : RefusalReason}
    (hobeys : s.obeys c) (hheld : s.selection = some h) (hconsole : h.console = c.console) (htarget : h.target = .trip n)
    (hnames : namesTarget c (.trip n)) (hwhy : s.judgeReset n = some why) :
    ∃ t, exec (.execute c) s = .next t ∧ s.passes t c.port (consoleFrame c 7) ∧
      { s with selection := none }.sameButReports t ∧
      s.makes t [.commandRefused c.console why 7 c.targetKind c.targetIndex] := by
  have hjudge : s.emptySlot.judgeReset n = some why := hwhy
  have heffect : s.takeExecute c =
      [ReportBody.commandRefused c.console why 7 c.targetKind c.targetIndex].foldl State.emit s.emptySlot := by
    rw [takeExecute_of_held hheld hconsole (htarget ▸ hnames), htarget, State.performTarget, hjudge]
    rfl
  exact performConsole_makes (code := 7) (act := fun s => s.takeExecute c) hobeys heffect
    (fun q => by cases q <;> rfl) rfl rfl rfl

/-- A reset that the Trip Unit accepts has its effect behind the emptied slot. -/
theorem executeTrip_accepted {s : State} {c : ConsoleFrame} {h : Selection} {n : Fin 8} (hobeys : s.obeys c)
    (hheld : s.selection = some h) (hconsole : h.console = c.console) (htarget : h.target = .trip n)
    (hnames : namesTarget c (.trip n)) (hlockout : s.channels[n].state = .lockout)
    (hbelow : s.channels[n].count < s.tables.trip[n].required) :
    ∃ t, exec (.execute c) s = .next t ∧ s.passes t c.port (consoleFrame c 7) ∧
      t = { s.emptySlot.acceptReset n with field := t.field, station := t.station, freeDraws := t.freeDraws } := by
  have hjudge : s.emptySlot.judgeReset n = none := (judgeReset_of_lockout hlockout).trans (if_pos hbelow)
  have heffect : s.takeExecute c = s.emptySlot.acceptReset n := by
    rw [takeExecute_of_held hheld hconsole (htarget ▸ hnames), htarget, State.performTarget, hjudge]
  have hports : ∀ q, (s.takeExecute c).port q = s.port q := fun q => by
    rw [heffect, port_of_offWindows (acceptReset_offWindows (s := s.emptySlot) hbelow)]
    cases q <;> rfl
  rw [← heffect]
  exact performConsole_obeyed (code := 7) (act := fun s => s.takeExecute c) hobeys hports

/-- Settles O34: the answer of R94 decides; a refusal is the record alone, and an accepted reset is that of R95. -/
theorem executeResetsChannel : Obligations.ExecuteResetsChannel := by
  intro s c h n hobeys hheld hconsole htarget hnames ch refused
  have hrefused : ∀ why, s.judgeReset n = some why → refused why := fun _ =>
    executeTrip_refused hobeys hheld hconsole htarget hnames
  refine ⟨fun hlockout hpresent => hrefused _ ?_, fun hfiring => hrefused _ (judgeReset_of_firing hfiring),
    fun hlockout hfiring => hrefused _ (judgeReset_of_idle hlockout hfiring), fun hlockout hbelow => ?_⟩
  · exact (judgeReset_of_lockout hlockout).trans (if_neg (Nat.not_lt.mpr hpresent))
  · obtain ⟨t, hnext, hpasses, ht⟩ := executeTrip_accepted hobeys hheld hconsole htarget hnames hlockout hbelow
    have hbelow' : s.emptySlot.channels[n].count < s.emptySlot.tables.trip[n].required := hbelow
    have hhorn : t.horn = (s.emptySlot.acceptReset n).horn := by rw [ht]
    have hreports : t.reports = (s.emptySlot.acceptReset n).reports := by rw [ht]
    have hwindows : t.windows = (s.emptySlot.acceptReset n).windows := by rw [ht]
    refine ⟨t, hnext, hpasses, ?_, hhorn.trans (acceptReset_horn hbelow'), ?_, fun w => ?_⟩
    · rw [State.sameButDisplay, ht, eq_of_offWindows (acceptReset_offWindows hbelow')]
      rfl
    · rw [hreports, ← emit_reports_congr (s := s) (u := s.emptySlot) rfl rfl]
      exact acceptReset_prefix hbelow'
    · have hwindow := acceptReset_window hbelow' w
      rw [hwindows]
      split
      next hnamed =>
        rw [hwindow.trans (if_pos hnamed)]
        exact ⟨rfl, rfl⟩
      next hother => exact hwindow.trans (if_neg hother)

end Sys2Proof.Machine
end

section
/-! WRITE to the TRIP table (R81, R82): the checks of R81 in order, and behind them the channel brought up to its new record.
An evaluation is said in two halves: what it leaves beside windows and records, which is one update by the state it gives,
and the records, windows and horn that its entry to that state makes. -/

namespace Sys2Proof.Machine

/-! ## Deliveries -/

/-- A new activation keeps the records that wait. -/
theorem activate_prefix (s : State) (w : Fin 96) (f : Feeder) : s.reports <+: (s.activate w f).reports := by
  unfold State.activate
  dsimp only
  split
  · exact emit_prefix { s.modWindow w _ with horn := .sounding } _
  · exact emit_prefix (s.modWindow w _) _

theorem activateAt_prefix (s : State) (target : Option (Fin 96)) (f : Feeder) :
    s.reports <+: (s.activateAt target f).reports := by
  cases target with
  | none => exact List.prefix_rfl
  | some v => exact activate_prefix s v f

theorem mem_joinFeeder (f : Feeder) (l : List Feeder) : f ∈ joinFeeder f l := by
  induction l with
  | nil => exact List.mem_singleton_self f
  | cons g rest ih =>
    rw [joinFeeder]
    split
    · exact List.mem_cons.mpr (.inl ‹_›)
    · split
      · exact List.mem_cons_self
      · exact List.mem_cons_of_mem g ih

/-- A new activation leaves its window in ALERT with its feeder (R44). -/
theorem activate_window_self (s : State) (w : Fin 96) (f : Feeder) :
    (s.activate w f).windows[w].state = .alert ∧ f ∈ (s.activate w f).windows[w].feeders := by
  rw [activate_windows, upd_self]
  exact ⟨rfl, mem_joinFeeder f _⟩

/-! ## Evaluation (R86, R88, R89) -/

/-- The channel is in FIRING or LOCKOUT, where it is not evaluated (R90, R93). -/
abbrev Channel.isActive (v : Channel) : Prop := v.state = .firing ∨ v.state = .lockout

/-- The state that an evaluation gives a channel (R88). -/
def State.evaluatedState (s : State) (c : Fin 8) : ChannelState :=
  nextChannelState s.channels[c].state s.channels[c].permit s.channels[c].count s.tables.trip[c].required

/-- The part with a channel moved to a state, and with an entry to FIRING the pulse, the lockout record and the coil's run
of readings (R88, R89, R92, R131). -/
def State.channelTo (s : State) (c : Fin 8) (st : ChannelState) : State :=
  { s with
    channels := upd s.channels c fun v =>
      { v with state := st, pulse := if st = .firing then .running s.tables.trip[c].pulseMs else v.pulse }
    nv := { s.nv with lockout := if st = .firing then upd s.nv.lockout c fun _ => true else s.nv.lockout }
    coils := if st = .firing then upd s.coils c fun v => { v with run := none } else s.coils }

theorem nextChannelState_eq (st : ChannelState) (permit : Bool) (count required : Nat) :
    nextChannelState st permit count required =
      if permit = false then .disarmed else if count < required then .ready
      else if st = .ready then .firing else .armWait := by
  unfold nextChannelState
  cases permit
  · rfl
  · cases st <;> rfl

theorem channelTo_of_ne_firing {s : State} {c : Fin 8} {st : ChannelState} (h : st ≠ .firing) :
    s.channelTo c st = s.modChannel c fun v => { v with state := st } := by
  simp only [State.channelTo, if_neg h]
  rfl

/-- An update that leaves its thing as it is. -/
theorem upd_eq_self {α : Type} {n : Nat} {v : Vector α n} {i : Fin n} {f : α → α} (h : f v[i] = v[i]) : upd v i f = v := by
  rw [upd, h]
  exact Vector.set_getElem_self _

theorem channelTo_self {s : State} {c : Fin 8} (h : s.channels[c].state ≠ .firing) :
    s.channelTo c s.channels[c].state = s := by
  rw [channelTo_of_ne_firing h, State.modChannel, upd_eq_self rfl]

/-- Entry to FIRING is the move, its TRIP record and the activation (R89). -/
theorem fire_eq (s : State) (c : Fin 8) :
    s.fire c = ((s.channelTo c .firing).emit (.trip c .firing)).activateAt s.tables.trip[c].window (.channel c) := by
  unfold State.fire
  simp only [emit_tables]
  rfl

/-- What an evaluation does, by the state it gives (R88, R89). -/
theorem evaluate_eq {s : State} {c : Fin 8} (h : ¬s.channels[c].isActive) :
    s.evaluate c =
      if s.evaluatedState c = s.channels[c].state then s
      else if s.evaluatedState c = .firing then s.fire c
      else (s.modChannel c fun v => { v with state := s.evaluatedState c }).emit (.trip c (s.evaluatedState c)) := by
  unfold State.evaluate
  dsimp only
  split
  next hfiring => exact absurd (.inl hfiring) h
  next hlockout => exact absurd (.inr hlockout) h
  next => rfl

/-- An evaluation that finds the same state changes nothing. -/
theorem evaluate_of_same {s : State} {c : Fin 8} (h : ¬s.channels[c].isActive)
    (hsame : s.evaluatedState c = s.channels[c].state) : s.evaluate c = s := by
  rw [evaluate_eq h, if_pos hsame]

theorem evaluate_of_fires {s : State} {c : Fin 8} (h : ¬s.channels[c].isActive) (hfires : s.evaluatedState c = .firing) :
    s.evaluate c =
      ((s.channelTo c .firing).emit (.trip c .firing)).activateAt s.tables.trip[c].window (.channel c) := by
  have hmoves : s.evaluatedState c ≠ s.channels[c].state := fun hsame => h (.inl (hsame.symm.trans hfires))
  rw [evaluate_eq h, if_neg hmoves, if_pos hfires, fire_eq]

/-- A move other than to FIRING is the move and its TRIP record (R88). -/
theorem evaluate_of_moves {s : State} {c : Fin 8} (h : ¬s.channels[c].isActive)
    (hmoves : s.evaluatedState c ≠ s.channels[c].state) (hnot : s.evaluatedState c ≠ .firing) :
    s.evaluate c = (s.channelTo c (s.evaluatedState c)).emit (.trip c (s.evaluatedState c)) := by
  rw [evaluate_eq h, if_neg hmoves, if_neg hnot, channelTo_of_ne_firing hnot]

/-- An evaluation beside windows and records: the channel is in the state it gives. -/
theorem evaluate_offWindows {s : State} {c : Fin 8} (h : ¬s.channels[c].isActive) :
    (s.evaluate c).offWindows = (s.channelTo c (s.evaluatedState c)).offWindows := by
  by_cases hfires : s.evaluatedState c = .firing
  · rw [evaluate_of_fires h hfires, hfires]
    exact (activateAt_view _ _ _).trans (emit_view _ _)
  · by_cases hsame : s.evaluatedState c = s.channels[c].state
    · rw [evaluate_of_same h hsame, hsame, channelTo_self fun hfiring => h (.inl hfiring)]
    · rw [evaluate_of_moves h hsame hfires]
      exact emit_view _ _

/-- A channel that moves makes its TRIP record before any WINDOW record (R88, R89). -/
theorem evaluate_prefix {s : State} {c : Fin 8} (h : ¬s.channels[c].isActive)
    (hmoves : s.evaluatedState c ≠ s.channels[c].state) :
    (s.emit (.trip c (s.evaluatedState c))).reports <+: (s.evaluate c).reports := by
  rw [← emit_reports_congr (s := s) (u := s.channelTo c (s.evaluatedState c)) rfl rfl]
  by_cases hfires : s.evaluatedState c = .firing
  · rw [evaluate_of_fires h hfires, hfires]
    exact activateAt_prefix _ _ _
  · rw [evaluate_of_moves h hmoves hfires]

/-- Without an entry to FIRING the display is left alone. -/
theorem evaluate_display {s : State} {c : Fin 8} (h : ¬s.channels[c].isActive) (hnot : s.evaluatedState c ≠ .firing) :
    (s.evaluate c).windows = s.windows ∧ (s.evaluate c).horn = s.horn := by
  by_cases hsame : s.evaluatedState c = s.channels[c].state
  · rw [evaluate_of_same h hsame]
    exact ⟨rfl, rfl⟩
  · rw [evaluate_of_moves h hsame hnot]
    exact ⟨emit_windows _ _, emit_horn _ _⟩

/-- A channel that fires alarms the window its record names (R89, R98). -/
theorem evaluate_alarms {s : State} {c : Fin 8} {w : Fin 96} (h : ¬s.channels[c].isActive)
    (hfires : s.evaluatedState c = .firing) (hwindow : s.tables.trip[c].window = some w) :
    (s.evaluate c).windows[w].state = .alert ∧ Feeder.channel c ∈ (s.evaluate c).windows[w].feeders := by
  rw [evaluate_of_fires h hfires, hwindow]
  exact activate_window_self _ w _

/-! ## The new record (R82) -/

/-- The part with a channel's record replaced, and its count and permit taken afresh, before it is evaluated. -/
def State.withTripRecord (s : State) (c : Fin 8) (x : TripRecord) : State :=
  (s.modTables fun t => { t with trip := upd t.trip c fun _ => x }).modChannel c fun v =>
    { v with count := voteCount x.stale v.voters, permit := permitOf x s.mode.permitMode }

theorem writeTrip_eq (s : State) (c : Fin 8) (x : TripRecord) : s.writeTrip c x = (s.withTripRecord c x).evaluate c := by
  unfold State.writeTrip State.bringUp State.modTables
  simp only [upd_self]
  rfl

theorem withTripRecord_channel (s : State) (c : Fin 8) (x : TripRecord) :
    (s.withTripRecord c x).channels[c] =
      { s.channels[c] with
        count := voteCount x.stale s.channels[c].voters, permit := permitOf x s.mode.permitMode } :=
  upd_self _ _ _

theorem withTripRecord_trip (s : State) (c : Fin 8) (x : TripRecord) : (s.withTripRecord c x).tables.trip[c] = x :=
  upd_self _ _ _

theorem withTripRecord_state (s : State) (c : Fin 8) (x : TripRecord) :
    (s.withTripRecord c x).channels[c].state = s.channels[c].state := by
  rw [withTripRecord_channel]

/-- Two updates of one thing, as one. -/
theorem upd_upd {α : Type} {n : Nat} (v : Vector α n) (i : Fin n) (f g : α → α) :
    upd (upd v i f) i g = upd v i fun x => g (f x) := by
  rw [upd, upd_self, upd, Vector.set_set, upd]

/-- The evaluation of a channel under its new record. -/
theorem withTripRecord_evaluatedState (s : State) (c : Fin 8) (x : TripRecord) :
    (s.withTripRecord c x).evaluatedState c =
      if permitOf x s.mode.permitMode = false then .disarmed
      else if voteCount x.stale s.channels[c].voters < x.required then .ready
      else if s.channels[c].state = .ready then .firing else .armWait := by
  rw [State.evaluatedState, withTripRecord_channel, withTripRecord_trip, nextChannelState_eq]

/-- A channel under its new record and in its new state, as one update. -/
theorem withTripRecord_channelTo (s : State) (c : Fin 8) (x : TripRecord) (st : ChannelState) :
    (s.withTripRecord c x).channelTo c st = { s with
      tables := { s.tables with trip := upd s.tables.trip c fun _ => x }
      channels := upd s.channels c fun v =>
        { v with
          count := voteCount x.stale v.voters, permit := permitOf x s.mode.permitMode, state := st
          pulse := if st = .firing then .running x.pulseMs else v.pulse }
      nv := { s.nv with lockout := if st = .firing then upd s.nv.lockout c fun _ => true else s.nv.lockout }
      coils := if st = .firing then upd s.coils c fun v => { v with run := none } else s.coils } := by
  rw [State.channelTo, withTripRecord_trip]
  simp only [State.withTripRecord, modChannel_channels, upd_upd]
  rfl

/-- The permit under a known effective mode (R34, R86). -/
theorem permitOf_iff {m : ModeTracker} (r : TripRecord) (h : m.effective ≠ none) :
    permitOf r m.permitMode = true ↔ r.enable = true ∧ ∃ mode, m.effective = some mode ∧ r.permits.has mode = true := by
  obtain ⟨mode, heffective⟩ := Option.ne_none_iff_exists'.mp h
  rw [ModeTracker.permitMode, heffective]
  simp [permitOf]

/-! ## The checks of R81 -/

theorem maintenance_iff (s : State) :
    s.maintenance = true ↔ s.mode.effective = some .isolated ∨ s.mode.effective = some .standstill := by
  simp [State.maintenance]

theorem judgeTrip_of_frozen {s : State} {c : Fin 8} {x : TripRecord} (h : s.nv.frozen = true) :
    s.judgeTrip c x = refuse s .refusedFrozen := if_pos h

theorem judgeTrip_of_thawed {s : State} {c : Fin 8} {x : TripRecord} (h : s.nv.frozen = false) :
    s.judgeTrip c x =
      if ¬s.maintenance = true then refuse s .refusedMaintenance
      else if s.channels[c].isActive then refuse s .refusedActive
      else written (s.writeTrip c x) .trip c.val := by
  unfold State.judgeTrip
  simp [h]

/-- A TRIP write that a check of R81 fails is refused with that check's result. -/
theorem writeTrip_refused {s : State} {r : Request} {c : Fin 8} {x : TripRecord} {result : ResultCode}
    (hadmits : s.admits r.port) (hflight : s.management.flight = none) (hrange : x.inRange)
    (hargs : r.args = byteOf c.val :: x.bytes)
    (hjudge : (s.asTaken r).judgeTrip c x = refuse (s.asTaken r) result) (hresult : result ≠ .done) :
    ∃ t, exec (.writeTrip r) s = .next t ∧ s.refusal t r (writeNote r .trip result) := by
  refine performRequest_refused (a := { code := 3, table := some TableId.trip.code, index := r.args.head? })
    (judge := fun s => s.judgeWrite 8 r.args parseTrip s.judgeTrip) hadmits ?_ hresult
  rw [hargs, judgeWrite_accepted _ (by decide) (by rw [modPort_management, hflight]) (parseTrip_bytes hrange), hjudge]

/-- A TRIP write that passes the checks of R81 answers DONE, and leaves the channel evaluated under its new record and the
read pointer behind it. -/
theorem writeTrip_accepted {s : State} {r : Request} {c : Fin 8} {x : TripRecord} (hadmits : s.admits r.port)
    (hflight : s.management.flight = none) (hrange : x.inRange) (hargs : r.args = byteOf c.val :: x.bytes)
    (hjudge : (s.asTaken r).judgeTrip c x = written ((s.asTaken r).writeTrip c x) .trip c.val)
    (hidle : ¬s.channels[c].isActive) :
    ∃ t, exec (.writeTrip r) s = .next t ∧ s.answers t r .done [] ∧
      t = { ((s.asTaken r).withTripRecord c x).evaluate c with
        management := s.management.pointed .trip c.val, field := t.field, station := t.station } := by
  have hidle' : ¬((s.asTaken r).withTripRecord c x).channels[c].isActive := by
    rwa [Channel.isActive, withTripRecord_state, modPort_channels]
  have hview := evaluate_offWindows hidle'
  have hdone : (s.asTaken r).judgeWrite 8 r.args parseTrip (s.asTaken r).judgeTrip =
      answer ((((s.asTaken r).withTripRecord c x).evaluate c).setPointer .trip (c.val + 1)) [] := by
    rw [hargs, judgeWrite_accepted _ (by decide) (by rw [modPort_management, hflight]) (parseTrip_bytes hrange), hjudge,
      writeTrip_eq]
    rfl
  have hmanagement : (((s.asTaken r).withTripRecord c x).evaluate c).management = s.management :=
    (congrArg State.management hview :).trans (modPort_management _ _ _)
  obtain ⟨t, hnext, ht, hanswers⟩ := performRequest_done
    (a := { code := 3, table := some TableId.trip.code, index := r.args.head? })
    (judge := fun s => s.judgeWrite 8 r.args parseTrip s.judgeTrip) hadmits hdone
    (fun q => by
      have hport := port_of_offWindows hview q
      cases q <;> exact hport)
    ((congrArg State.straps hview :).trans (modPort_straps _ _ _))
  refine ⟨t, hnext, hanswers, ht.trans ?_⟩
  simp only [State.setPointer, hmanagement]
  rfl

/-- Settles O46: the checks of R81 in order, and behind them one evaluation of the channel under its new record. -/
theorem writeTripJudged : Obligations.WriteTripJudged := by
  intro s r c x hadmits hflight hrange hargs maintained active refused
  have hmaintenance : (s.asTaken r).maintenance = true ↔ maintained := by
    rw [maintenance_iff, modPort_mode]
  have hactive : (s.asTaken r).channels[c].isActive ↔ active := by rw [modPort_channels]
  refine ⟨fun hfrozen => ?_, fun hthawed => ?_⟩
  · exact writeTrip_refused hadmits hflight hrange hargs (judgeTrip_of_frozen (by rwa [modPort_nv])) (by decide)
  have hjudge := judgeTrip_of_thawed (s := s.asTaken r) (c := c) (x := x) (by rwa [modPort_nv])
  refine ⟨fun hunmaintained => ?_, fun hmaintained htripped => ?_, fun hmaintained hidle => ?_⟩
  · exact writeTrip_refused hadmits hflight hrange hargs
      (hjudge.trans (if_pos (hmaintenance.not.mpr hunmaintained))) (by decide)
  · rw [if_neg (not_not_intro (hmaintenance.mpr hmaintained)), if_pos (hactive.mpr htripped)] at hjudge
    exact writeTrip_refused hadmits hflight hrange hargs hjudge (by decide)
  rw [if_neg (not_not_intro (hmaintenance.mpr hmaintained)), if_neg (hactive.not.mpr hidle)] at hjudge
  intro count permit st
  obtain ⟨t, hnext, hanswers, ht⟩ := writeTrip_accepted hadmits hflight hrange hargs hjudge hidle
  have hpermit : permitOf x s.mode.permitMode = permit := by
    have heffective : s.mode.effective ≠ none := by
      obtain h | h := hmaintained <;> rw [h] <;> exact Option.some_ne_none _
    exact Bool.eq_iff_iff.mpr ((permitOf_iff x heffective).trans decide_eq_true_iff.symm)
  have hst : ((s.asTaken r).withTripRecord c x).evaluatedState c = st := by
    rw [withTripRecord_evaluatedState, modPort_mode, modPort_channels, hpermit]
    rfl
  have hbefore : ((s.asTaken r).withTripRecord c x).channels[c].state = s.channels[c].state := by
    rw [withTripRecord_state, modPort_channels]
  have hidle' : ¬((s.asTaken r).withTripRecord c x).channels[c].isActive := by
    rwa [Channel.isActive, hbefore]
  have hreports : t.reports = (((s.asTaken r).withTripRecord c x).evaluate c).reports := by rw [ht]
  have hlost : t.lost = (((s.asTaken r).withTripRecord c x).evaluate c).lost := by rw [ht]
  have hwindows : t.windows = (((s.asTaken r).withTripRecord c x).evaluate c).windows := by rw [ht]
  have hhorn : t.horn = (((s.asTaken r).withTripRecord c x).evaluate c).horn := by rw [ht]
  refine ⟨t, hnext, hanswers, ?_, fun hsame => ?_, fun hmoves => ?_, fun hnot => ?_, fun hfires w hwindow => ?_⟩
  · rw [ht, eq_of_offWindows (evaluate_offWindows hidle'), hst, withTripRecord_channelTo, asTaken_view, hpermit]
    rfl
  · rw [State.makes, hreports, hlost, hwindows, hhorn, evaluate_of_same hidle' (by rw [hst, hbefore, hsame])]
    exact ⟨⟨modPort_reports _ _ _, modPort_lost _ _ _⟩, modPort_windows _ _ _, modPort_horn _ _ _⟩
  · have hprefix := evaluate_prefix hidle' (by rwa [hst, hbefore])
    have hrecord : (((s.asTaken r).withTripRecord c x).emit (.trip c st)).reports = (s.emit (.trip c st)).reports :=
      emit_reports_congr (modPort_reports _ _ _) (modPort_clock _ _ _)
    rwa [hst, hrecord, ← hreports] at hprefix
  · obtain ⟨hsameWindows, hsameHorn⟩ := evaluate_display hidle' (by rwa [hst])
    exact ⟨hwindows.trans (hsameWindows.trans (modPort_windows _ _ _)),
      hhorn.trans (hsameHorn.trans (modPort_horn _ _ _))⟩
  · rw [hwindows]
    exact evaluate_alarms hidle' (hst.trans hfires) (by rw [withTripRecord_trip, hwindow])

end Sys2Proof.Machine
end

section
/-! The horn and lamp test commands and the outputs (R52 to R58, R87, R108, R109, R123, R128). Each command is one update of
the horn state or the lamp test, and one law for each kind of step carries it to the step's end; each output is a function of
the state, said by one equation or `↔` for each of its cases. -/

namespace Sys2Proof.Machine

/-! ## Steps that make no record -/

/-- A matched command whose effect is an update `u` that leaves the ports alone, without a record. -/
theorem performConsole_updates {s u : State} {c : ConsoleFrame} {code : Byte} {act : State → State} (hobeys : s.obeys c)
    (hact : act s = u) (hports : ∀ q, u.port q = s.port q) :
    ∃ t, performConsole s c code act = .next t ∧ s.passes t c.port (consoleFrame c code) ∧ u.sameButPorts t := by
  subst hact
  exact performConsole_obeyed hobeys hports

/-- An event whose effect is an update `u` that leaves the ports alone, without a record. -/
theorem perform_updates {s u : State} {f : State → State} (hrunning : s.phase = .running) (hf : f s = u)
    (hports : ∀ q, u.port q = s.port q) : ∃ t, perform s f = .next t ∧ s.portsIdle t ∧ u.sameButPorts t := by
  subst hf
  obtain ⟨t, hnext, hidle, ht⟩ := perform_idle hrunning hports
  have hdraws : t.freeDraws = (f s).freeDraws := by rw [ht]
  exact ⟨t, hnext, hidle, by rw [State.sameButPorts, hdraws]; exact ht⟩

/-! ## The commands -/

/-- SILENCE as the horn alone (R57). -/
theorem silenceHorn_eq (s : State) :
    s.silenceHorn = { s with horn := if s.horn = .sounding then .silenced else s.horn } := by
  unfold State.silenceHorn
  split <;> rfl

theorem silence_updatesHorn {s : State} {c : ConsoleFrame} (hobeys : s.obeys c) :
    ∃ t, exec (.silence c) s = .next t ∧ s.passes t c.port (consoleFrame c 3) ∧
      { s with horn := if s.horn = Horn.sounding then Horn.silenced else s.horn }.sameButPorts t :=
  performConsole_updates hobeys (silenceHorn_eq s) fun q => by cases q <;> rfl

theorem lampTestStart_updatesLampTest {s : State} {c : ConsoleFrame} (hobeys : s.obeys c) :
    ∃ t, exec (.lampTestStart c) s = .next t ∧ s.passes t c.port (consoleFrame c 4) ∧
      { s with lampTest := .running 60000 }.sameButPorts t :=
  performConsole_updates (act := State.startLampTest) hobeys rfl fun q => by cases q <;> rfl

theorem lampTestStop_updatesLampTest {s : State} {c : ConsoleFrame} (hobeys : s.obeys c) :
    ∃ t, exec (.lampTestStop c) s = .next t ∧ s.passes t c.port (consoleFrame c 5) ∧
      { s with lampTest := .stopped }.sameButPorts t :=
  performConsole_updates (act := State.stopLampTest) hobeys rfl fun q => by cases q <;> rfl

/-- The expiry of a lamp test that has time left, or of none, does not come about (R55). -/
theorem lampTestExpiry_passesOver {s : State} (hrunning : s.phase = .running) (hnot : s.lampTest ≠ .running 0) :
    s.passesOver .lampTestExpiry :=
  perform_passed hrunning (if_neg fun hdue => hnot ((Timer.isDue_iff _).mp hdue))

theorem lampTestExpiry_ends {s : State} (hrunning : s.phase = .running) (hdue : s.lampTest = .running 0) :
    ∃ t, exec .lampTestExpiry s = .next t ∧ s.portsIdle t ∧ { s with lampTest := .stopped }.sameButPorts t :=
  perform_updates hrunning (if_pos ((Timer.isDue_iff _).mpr hdue)) fun q => by cases q <;> rfl

/-! ## Horn and trip outputs -/

theorem hornOutput_iff (s : State) :
    s.hornOutput = true ↔ s.phase = .running ∧ s.horn = .sounding ∧ s.mode.effective ≠ some .isolated := by
  simp [State.hornOutput, and_assoc]

theorem tripOutput_iff (s : State) (c : Fin 8) :
    s.tripOutput c = true ↔ s.phase = .running ∧ s.channels[c].state = .firing := by
  simp [State.tripOutput]

/-! ## The displayed pattern and colour (R53, R54) -/

theorem pattern_of_lampTest {s : State} (h : s.lampTest.isRunning = true) (w : Fin 96) : s.pattern w = .steady := if_pos h

theorem colourOf_of_lampTest {s : State} (h : s.lampTest.isRunning = true) (w : Fin 96) :
    s.colourOf w = s.tables.panel.testColour := if_pos h

section NoLampTest
variable {s : State} (htest : s.lampTest.isRunning = false) {w : Fin 96}
include htest

theorem pattern_of_quiet (h : s.windows[w].state = .quiet) : s.pattern w = .dark := by
  rw [State.pattern, htest, h]
  rfl

theorem pattern_of_alert (h : s.windows[w].state = .alert) :
    s.pattern w = if s.windows[w].markers = 0 then .fastFlash else .firstOut := by
  rw [State.pattern, htest, h]
  rfl

theorem pattern_of_held (h : s.windows[w].state = .held) : s.pattern w = .steady := by
  rw [State.pattern, htest, h]
  rfl

theorem pattern_of_clearWait (h : s.windows[w].state = .clearWait) : s.pattern w = .slowFlash := by
  rw [State.pattern, htest, h]
  rfl

theorem colourOf_of_markers :
    s.colourOf w =
      if s.windows[w].markers = 0 then s.tables.window[w].normalColour else s.tables.window[w].firstOutColour := by
  simp [State.colourOf, htest]

end NoLampTest

/-! ## The lamp's drive (R52, R123, R128) -/

/-- The flash clock stands in a lit part of the pattern (R52). -/
def Pattern.inLitPart (p : Pattern) (flash : Nat) : Prop :=
  match p with
  | .dark => False
  | .steady => True
  | .fastFlash => flash % 320 < 160
  | .slowFlash => flash % 1280 < 640
  | .firstOut => flash % 720 < 80 ∨ 160 ≤ flash % 720 ∧ flash % 720 ≤ 239

theorem litAt_iff (p : Pattern) (flash : Nat) : p.litAt flash = true ↔ p.inLitPart flash := by
  cases p <;> simp [Pattern.litAt, Pattern.inLitPart]

/-- The lamp is driven: the part runs, the pattern is in a lit part, and no short is recorded. -/
def State.lampDriven (s : State) (w : Fin 96) : Prop :=
  s.phase = .running ∧ (s.pattern w).inLitPart s.flash ∧ s.lamps[w].fault ≠ some .short

theorem litLevels_of_short {s : State} {w : Fin 96} (h : s.lamps[w].fault = some .short) : s.litLevels w = (0, 0, 0) :=
  if_pos (decide_eq_true h)

/-- The levels of a lamp without a recorded short: each element of its colour by brightness, global dim and derate. -/
theorem litLevels_of_not_short {s : State} {w : Fin 96} (h : s.lamps[w].fault ≠ some .short) :
    s.litLevels w =
      let level (b : Byte) := driveLevel b s.tables.window[w].brightness s.tables.panel.globalDim s.health.hot
      let c := s.tables.palette[s.colourOf w]
      (level c.red, level c.green, level c.blue) :=
  if_neg fun hshort => h (of_decide_eq_true hshort)

/-- The occasion of any drive: a running part, and a pattern in a lit part. -/
theorem lampOn_iff (s : State) (w : Fin 96) :
    (s.phase = .running && (s.pattern w).litAt s.flash) = true ↔
      s.phase = .running ∧ (s.pattern w).inLitPart s.flash := by
  rw [Bool.and_eq_true, decide_eq_true_iff, litAt_iff]

theorem lampDrive_of_driven {s : State} {w : Fin 96} (h : s.lampDriven w) :
    s.lampDrive w =
      let level (b : Byte) := driveLevel b s.tables.window[w].brightness s.tables.panel.globalDim s.health.hot
      let c := s.tables.palette[s.colourOf w]
      (level c.red, level c.green, level c.blue) := by
  obtain ⟨hrunning, hlit, hnotShort⟩ := h
  rw [State.lampDrive, if_pos ((lampOn_iff s w).mpr ⟨hrunning, hlit⟩), litLevels_of_not_short hnotShort]

theorem lampDrive_of_not_driven {s : State} {w : Fin 96} (h : ¬s.lampDriven w) : s.lampDrive w = (0, 0, 0) := by
  by_cases hon : s.phase = .running ∧ (s.pattern w).inLitPart s.flash
  · obtain ⟨hrunning, hlit⟩ := hon
    have hshort : s.lamps[w].fault = some .short := not_not.mp fun hnotShort => h ⟨hrunning, hlit, hnotShort⟩
    rw [State.lampDrive, litLevels_of_short hshort, ite_self]
  · exact if_neg fun hlamp => hon ((lampOn_iff s w).mp hlamp)

/-- Settles O30: the commands are one update each, and the outputs are read off the state by the case of each. -/
theorem hornAndLampTestCommands : Obligations.HornAndLampTestCommands := by
  refine ⟨fun s => ⟨fun c hobeys => ⟨silence_updatesHorn hobeys, lampTestStart_updatesLampTest hobeys,
      lampTestStop_updatesLampTest hobeys⟩, lampTestExpiry_passesOver, lampTestExpiry_ends⟩,
    fun s => ⟨hornOutput_iff s, tripOutput_iff s, fun w => ?_⟩⟩
  exact ⟨fun htest => ⟨pattern_of_lampTest htest w, colourOf_of_lampTest htest w⟩,
    fun htest => ⟨pattern_of_quiet htest, pattern_of_alert htest, pattern_of_held htest, pattern_of_clearWait htest,
      fun _ => colourOf_of_markers htest⟩,
    lampDrive_of_driven, lampDrive_of_not_driven⟩

end Sys2Proof.Machine
end

section
/-! What the Console Command Unit refuses (R96, R106, R114, R118): a refusal is its record and nothing else. -/

namespace Sys2Proof.Machine

/-- A matched command that is refused makes the record of R118 and changes nothing else. -/
theorem performConsole_refused {s : State} {c : ConsoleFrame} {code : Byte} {act : State → State} {why : RefusalReason}
    (hobeys : s.obeys c) (hact : act s = s.refuseCommand c code why) :
    ∃ t, performConsole s c code act = .next t ∧ s.passes t c.port (consoleFrame c code) ∧ s.sameButReports t ∧
      s.makes t [.commandRefused c.console why code c.targetKind c.targetIndex] :=
  performConsole_makes hobeys hact (fun _ => rfl) rfl rfl rfl

/-! ## BAD-TARGET -/

theorem targetWindows_of_not_windowTarget {c : ConsoleFrame} (h : ¬windowTarget c) : targetWindows c = none := by
  obtain ⟨hnotAll, hnotOne⟩ := not_or.mp h
  rw [targetWindows, if_neg hnotAll]
  split
  next hkind => rw [index?_none.mpr (Nat.not_lt.mp fun hindex => hnotOne ⟨hkind, hindex⟩), Option.map_none]
  next => rfl

theorem onWindows_of_not_windowTarget {c : ConsoleFrame} (h : ¬windowTarget c) (s : State) (code : Byte)
    (f : Fin 96 → State → State) : s.onWindows c code f = s.refuseCommand c code .badTarget := by
  rw [State.onWindows, targetWindows_of_not_windowTarget h]

/-- A SELECT that names no target, or one that is disabled, is refused (R96, R106). -/
theorem takeSelect_of_unacceptable {s : State} {c : ConsoleFrame} (h : ∀ x, namesTarget c x → ¬s.selectable x) :
    s.takeSelect c = s.refuseCommand c 6 .badTarget := by
  unfold State.takeSelect
  cases htarget : Target.of c.targetKind c.targetIndex with
  | none => rfl
  | some x =>
    have hdisabled : s.targetDisabled x = true := by
      rw [← Bool.not_eq_false, targetDisabled_iff]
      exact h x ((target_of_iff c x).mp htarget)
    exact if_pos hdisabled

/-! ## NO-SELECTION and MISMATCH -/

theorem takeExecute_of_empty {s : State} (h : s.selection = none) (c : ConsoleFrame) :
    s.takeExecute c = if c.dest = 255 then s else s.refuseCommand c 7 .noSelection := by
  rw [State.takeExecute, h]

theorem takeExecute_of_mismatch {s : State} {c : ConsoleFrame} {h : Selection} (hheld : s.selection = some h)
    (hdiffers : h.console ≠ c.console ∨ ¬namesTarget c h.target) :
    s.takeExecute c = s.refuseCommand c 7 .mismatch := by
  rw [State.takeExecute, hheld]
  refine if_neg fun ⟨hconsole, htarget⟩ => ?_
  exact hdiffers.elim (· hconsole) (· ((target_of_iff c h.target).mp htarget))

/-- Settles O31: each refusal is the record of R118 alone; a broadcast EXECUTE on an empty slot has no effect. -/
theorem consoleRefusals : Obligations.ConsoleRefusals := by
  refine ⟨fun s c hobeys => ?_, fun s c hobeys => ?_⟩
  · intro refused
    refine ⟨fun htarget => ⟨?_, ?_⟩, fun htarget => ?_⟩
    · exact performConsole_refused hobeys (onWindows_of_not_windowTarget htarget s 1 _)
    · exact performConsole_refused hobeys (onWindows_of_not_windowTarget htarget s 2 _)
    · exact performConsole_refused (act := fun s => s.takeSelect c) hobeys (takeSelect_of_unacceptable htarget)
  · refine ⟨fun hempty hbroadcast => ?_, fun hempty haddressed => ?_, fun h hheld hdiffers => ?_⟩
    · exact performConsole_updates (act := fun s => s.takeExecute c) hobeys
        ((takeExecute_of_empty hempty c).trans (if_pos hbroadcast)) fun _ => rfl
    · exact performConsole_refused (act := fun s => s.takeExecute c) hobeys
        ((takeExecute_of_empty hempty c).trans (if_neg haddressed))
    · exact performConsole_refused (act := fun s => s.takeExecute c) hobeys (takeExecute_of_mismatch hheld hdiffers)

end Sys2Proof.Machine
end

section
/-! The Selection slot (R110 to R117): SELECT, CANCEL and the age timer's end each set the slot once, with a run of records
behind it. -/

namespace Sys2Proof.Machine

/-! ## SELECT -/

/-- The part with its slot HELD by a console, with a fresh age timer (R111). -/
def State.withSelection (s : State) (console : Byte) (x : Target) : State :=
  { s with selection := some { console, target := x, age := .running (s.tables.panel.selectionAgeS * 1000) } }

/-- The record of the different selection that a SELECT displaces, if it displaces one (R112). -/
def State.displacedBy (s : State) (console : Byte) (x : Target) : List ReportBody :=
  match s.selection with
  | none => []
  | some h => if h.console = console ∧ h.target = x then [] else [.selection h.console .replaced h.target]

theorem displacedBy_of_different {s : State} {console : Byte} {x : Target} {h : Selection} (hheld : s.selection = some h)
    (hdiffers : h.console ≠ console ∨ h.target ≠ x) :
    s.displacedBy console x = [.selection h.console .replaced h.target] := by
  rw [State.displacedBy, hheld]
  exact if_neg fun ⟨hconsole, htarget⟩ => hdiffers.elim (· hconsole) (· htarget)

theorem displacedBy_of_none_or_same {s : State} {console : Byte} {x : Target}
    (h : s.selection = none ∨ ∃ h, s.selection = some h ∧ h.console = console ∧ h.target = x) :
    s.displacedBy console x = [] := by
  obtain hempty | ⟨h, hheld, hsame⟩ := h
  · rw [State.displacedBy, hempty]
  · rw [State.displacedBy, hheld]
    exact if_pos hsame

/-- A record made ahead of the hold may be made behind it. -/
theorem withSelection_emit (s : State) (console : Byte) (x : Target) (b : ReportBody) :
    (s.emit b).withSelection console x = (s.withSelection console x).emit b := by
  unfold State.emit State.withSelection
  split <;> rfl

/-- An accepted SELECT holds the slot, and makes its SELECTED record behind that of a displaced selection (R111, R112). -/
theorem acceptSelect_eq (s : State) (console : Byte) (x : Target) :
    s.acceptSelect console x =
      (s.displacedBy console x ++ [ReportBody.selection console .selected x]).foldl State.emit
        (s.withSelection console x) := by
  unfold State.acceptSelect State.displacedBy
  cases s.selection with
  | none => rfl
  | some h =>
    by_cases hsame : h.console = console ∧ h.target = x
    · simp only [if_pos hsame]
      rfl
    · simp only [if_neg hsame]
      exact congrArg (State.emit · (.selection console .selected x)) (withSelection_emit s console x _)

theorem takeSelect_of_selectable {s : State} {c : ConsoleFrame} {x : Target} (hnames : namesTarget c x)
    (hselectable : s.selectable x) : s.takeSelect c = s.acceptSelect c.console x := by
  rw [State.takeSelect, (target_of_iff c x).mpr hnames]
  exact if_neg (by rw [(targetDisabled_iff s x).mpr hselectable]; decide)

/-! ## CANCEL -/

/-- A CANCEL from the selection's console empties the slot with one record (R115). -/
theorem takeCancel_of_holder {s : State} {c : ConsoleFrame} {h : Selection} (hheld : s.selection = some h)
    (hconsole : h.console = c.console) :
    s.takeCancel c = [ReportBody.selection h.console .cancelled h.target].foldl State.emit s.emptySlot := by
  rw [State.takeCancel, hheld]
  exact if_pos hconsole

theorem takeCancel_of_other {s : State} {c : ConsoleFrame} (h : ∀ h, s.selection = some h → h.console ≠ c.console) :
    s.takeCancel c = s := by
  unfold State.takeCancel
  split
  next => rfl
  next held hheld => exact if_neg (h held hheld)

theorem cancel_emptiesSlot {s : State} {c : ConsoleFrame} {h : Selection} (hobeys : s.obeys c)
    (hheld : s.selection = some h) (hconsole : h.console = c.console) :
    ∃ t, exec (.cancel c) s = .next t ∧ s.passes t c.port (consoleFrame c 8) ∧
      { s with selection := none }.sameButReports t ∧ s.makes t [.selection h.console .cancelled h.target] :=
  performConsole_makes (act := fun s => s.takeCancel c) hobeys (takeCancel_of_holder hheld hconsole)
    (fun q => by cases q <;> rfl) rfl rfl rfl

theorem cancel_passes {s : State} {c : ConsoleFrame} (hobeys : s.obeys c)
    (h : ∀ h, s.selection = some h → h.console ≠ c.console) :
    ∃ t, exec (.cancel c) s = .next t ∧ s.passes t c.port (consoleFrame c 8) ∧ s.sameButPorts t :=
  performConsole_updates (act := fun s => s.takeCancel c) hobeys (takeCancel_of_other h) fun _ => rfl

/-! ## The age timer's end -/

/-- An age timer that has run out empties the slot with one record (R116). -/
theorem ageExpires_of_due {s : State} {h : Selection} (hheld : s.selection = some h) (hdue : h.age = .running 0) :
    s.ageExpires = [ReportBody.selection h.console .expired h.target].foldl State.emit s.emptySlot := by
  rw [State.ageExpires, hheld]
  exact if_pos ((Timer.isDue_iff _).mpr hdue)

/-- Without an age timer that has run out there is no expiry (R117). -/
theorem ageExpires_of_not_due {s : State} (h : ∀ h, s.selection = some h → h.age ≠ .running 0) : s.ageExpires = s := by
  unfold State.ageExpires
  split
  next => rfl
  next held hheld => exact if_neg fun hdue => h held hheld ((Timer.isDue_iff _).mp hdue)

theorem ageTimerExpiry_emptiesSlot {s : State} {h : Selection} (hrunning : s.phase = .running)
    (hheld : s.selection = some h) (hdue : h.age = .running 0) :
    ∃ t, exec .ageTimerExpiry s = .next t ∧ s.portsIdle t ∧ { s with selection := none }.sameButReports t ∧
      s.makes t [.selection h.console .expired h.target] := by
  obtain ⟨t, hnext, hidle, ht, hmakes⟩ := perform_makes hrunning (ageExpires_of_due hheld hdue)
    (fun q => by cases q <;> rfl) rfl rfl rfl
  have hdraws : t.freeDraws = s.freeDraws := by rw [ht]; rfl
  exact ⟨t, hnext, hidle, by rw [State.sameButReports, hdraws]; exact ht, hmakes⟩

/-- Settles O32: each move of the slot is one update with its records behind it; where the slot's console or timer is
another, nothing comes about. -/
theorem selectionSlotMoves : Obligations.SelectionSlotMoves := by
  refine ⟨fun s c x hobeys hnames hselectable => ?_, fun s =>
    ⟨fun c hobeys => ⟨fun h => cancel_emptiesSlot hobeys, cancel_passes hobeys⟩,
      fun hrunning hnot => perform_passed hrunning (ageExpires_of_not_due hnot),
      fun hrunning h => ageTimerExpiry_emptiesSlot hrunning⟩⟩
  have heffect := (takeSelect_of_selectable hnames hselectable).trans (acceptSelect_eq s c.console x)
  obtain ⟨t, hnext, hpasses, hframe, hmakes⟩ := performConsole_makes (code := 6) (act := fun s => s.takeSelect c) hobeys
    heffect (fun q => by cases q <;> rfl) rfl rfl rfl
  have hselection : t.selection = (s.withSelection c.console x).selection := by rw [hframe]
  refine ⟨t, hnext, hpasses, ?_, hselection, fun h hheld hdiffers => ?_, fun hsame => ?_⟩
  · rw [hselection]
    exact hframe
  · rwa [displacedBy_of_different hheld hdiffers] at hmakes
  · rwa [displacedBy_of_none_or_same hsame] at hmakes

end Sys2Proof.Machine
end

section
/-! READ (R168): its checks one after the other, the records it gives, and the COUNTERS record with the request's own slot
counted (R146, R154). -/

namespace Sys2Proof.Machine

/-! ## Bytes and table codes -/

theorem byteOf_self (b : Byte) : byteOf b.toNat = b := BitVec.eq_of_toNat_eq (byteOf_lt b.isLt)

/-- A code beyond the sixteen tables names none (R164). -/
theorem TableId.ofCode_of_unknown {b : Byte} (h : 16 ≤ b.toNat) : TableId.ofCode b = none :=
  List.getElem?_eq_none (show TableId.all.length ≤ b.toNat from h)

theorem readTableByte_of_unknown {b first count : Byte} (h : 16 ≤ b.toNat) : readTableByte [b, first, count] = none := by
  rw [readTableByte, TableId.ofCode_of_unknown h]
  rfl

theorem readTableByte_code (x : TableId) (first count : Byte) : readTableByte [x.code, first, count] = some x.code := by
  rw [readTableByte, TableId.ofCode_code]
  rfl

/-! ## The checks of a READ -/

theorem judgeRead_of_unknown {b : Byte} (h : 16 ≤ b.toNat) (s : State) (first count : Byte) :
    s.judgeRead [b, first, count] = refuse s .badTable := by
  rw [State.judgeRead, TableId.ofCode_of_unknown h]

theorem judgeRead_code (s : State) (x : TableId) (first count : Byte) :
    s.judgeRead [x.code, first, count] = s.readTable x first.toNat count.toNat := by
  rw [State.judgeRead, TableId.ofCode_code]

section Checks

variable {s : State} {x : TableId} {first count : Nat}

theorem readTable_of_bad_count (h : ¬(1 ≤ count ∧ count ≤ 8)) : s.readTable x first count = refuse s .badValue :=
  if_pos h

theorem readTable_of_beyond (hcount : 1 ≤ count ∧ count ≤ 8) (h : x.size < first + count) :
    s.readTable x first count = refuse s .badIndex := by
  rw [State.readTable, if_neg (not_not_intro hcount), if_pos h]

theorem readTable_of_too_long (hcount : 1 ≤ count ∧ count ≤ 8) (hwithin : first + count ≤ x.size)
    (h : 234 < count * x.recordBytes) : s.readTable x first count = refuse s .badLength := by
  rw [State.readTable, if_neg (not_not_intro hcount), if_neg (Nat.not_lt.mpr hwithin)]
  exact if_pos h

theorem readTable_accepted (hcount : 1 ≤ count ∧ count ≤ 8) (hwithin : first + count ≤ x.size)
    (hfits : count * x.recordBytes ≤ 234) :
    s.readTable x first count =
      answer ((s.setPointer x (first + count)).setReadCount count) (s.readData x first count) := by
  rw [State.readTable, if_neg (not_not_intro hcount), if_neg (Nat.not_lt.mpr hwithin)]
  exact if_neg (Nat.not_lt.mpr hfits)

end Checks

/-- The data of an answered READ repeats its arguments ahead of the records (11.3). -/
theorem readData_eq (s : State) (x : TableId) (first count : Byte) :
    s.readData x first.toNat count.toNat =
      [x.code, first, count] ++ (List.range count.toNat).flatMap fun k => s.record x (first.toNat + k) := by
  rw [State.readData, byteOf_self, byteOf_self]

/-! ## READ as a request -/

/-- A READ that a check fails is refused with that check's result, and its table byte is noted as check 3 left it (R166). -/
theorem read_refused {s : State} {r : Request} {b first count : Byte} {table : Option Byte} {result : ResultCode}
    (hadmits : s.admits r.port) (hargs : r.args = [b, first, count]) (htable : readTableByte [b, first, count] = table)
    (hjudge : (s.asTaken r).judgeRead [b, first, count] = refuse (s.asTaken r) result) (hresult : result ≠ .done) :
    ∃ t, exec (.read r) s = .next t ∧ s.refusal t r { request := 1, table, index := some first, result } := by
  rw [← hargs] at hjudge
  obtain ⟨t, hnext, hrefusal⟩ := performRequest_refused
    (a := { code := 1, table := readTableByte r.args, index := r.args[1]? })
    (judge := fun s => s.judgeRead r.args) hadmits hjudge hresult
  refine ⟨t, hnext, ?_⟩
  simp only [hargs, htable] at hrefusal
  exact hrefusal

/-- A READ that passes its checks moves the read pointer and the read count, and answers with the records (R168). -/
theorem read_accepted {s : State} {r : Request} {x : TableId} {first count : Byte} (hadmits : s.admits r.port)
    (hargs : r.args = [x.code, first, count]) (hcount : 1 ≤ count.toNat ∧ count.toNat ≤ 8)
    (hwithin : first.toNat + count.toNat ≤ x.size) (hfits : count.toNat * x.recordBytes ≤ 234) :
    ∃ t, exec (.read r) s = .next t ∧
      s.doneWith t r
        { s.management.done with readTable := x, readIndex := first.toNat + count.toNat, readCount := count.toNat }
        ([x.code, first, count] ++
          (List.range count.toNat).flatMap fun k => (s.asTaken r).record x (first.toNat + k)) := by
  have hjudge := (judgeRead_code (s.asTaken r) x first count).trans (readTable_accepted hcount hwithin hfits)
  rw [← hargs, readData_eq] at hjudge
  obtain ⟨t, hnext, ht, hanswers⟩ := performRequest_done
    (a := { code := 1, table := readTableByte r.args, index := r.args[1]? })
    (judge := fun s => s.judgeRead r.args) hadmits hjudge (fun q => by cases q <;> rfl) (modPort_straps _ _ _)
  refine ⟨t, hnext, ht.trans ?_, hanswers⟩
  rw [asTaken_view]
  rfl

/-! ## COUNTERS as a request finds it

The table holds a record for each port, the field port's first (R146). -/

theorem record_counters_field (s : State) : s.record .counters 0 = s.counters .field := rfl

theorem record_counters_station (s : State) : s.record .counters 1 = s.counters .station := rfl

theorem eq_otherPort_of_ne {p q : PortId} (h : p ≠ q) : p = otherPort q := by
  revert h
  cases p <;> cases q <;> decide

/-- A request's own slot stands RESERVED behind the others of its port, and nothing else moves (R154). -/
theorem asTaken_port (s : State) (r : Request) (p : PortId) :
    (s.asTaken r).port p =
      { s.port p with slots := (s.port p).slots ++ if p = r.port then [.reserved r.id r.src] else [] } := by
  by_cases h : p = r.port
  · rw [h, modPort_port, if_pos rfl]
  · rw [if_neg h, List.append_nil, eq_otherPort_of_ne h, modPort_other]

theorem asTaken_slots_length (s : State) (r : Request) (p : PortId) :
    ((s.asTaken r).port p).slots.length = (s.port p).slots.length + if p = r.port then 1 else 0 := by
  rw [asTaken_port, List.length_append]
  split <;> rfl

/-- The record of COUNTERS that a request finds counts its own slot, and is otherwise that of the part before it. -/
theorem asTaken_counters (s : State) (r : Request) (p : PortId) :
    (s.asTaken r).counters p =
      bytes16 (s.port p).crc ++ bytes16 (s.port p).length ++ bytes16 (s.port p).stall ++ bytes16 (s.port p).overflow ++
        bytes16 (s.port p).unanswered ++
        [(s.port p).status.code, byteOf (s.port p).fifo.length,
         byteOf ((s.port p).slots.length + if p = r.port then 1 else 0), byteOf s.reports.length, byteOf s.lost] := by
  rw [State.counters, asTaken_slots_length, asTaken_port, modPort_reports, modPort_lost]

/-- Settles O38: the checks of R168 in their order, each with its result, and the accepted READ behind them; the COUNTERS
record counts the slot that the request has just reserved. -/
theorem readAnswered : Obligations.ReadAnswered := by
  refine ⟨fun s r b first count hadmits hargs => ⟨fun hunknown => ?badTable, ?known⟩, fun s r p => ?counters⟩
  case badTable =>
    exact read_refused hadmits hargs (readTableByte_of_unknown hunknown) (judgeRead_of_unknown hunknown _ _ _) (by decide)
  case known =>
    rintro x rfl
    have refused {result : ResultCode} (hresult : result ≠ .done)
        (hread : (s.asTaken r).readTable x first.toNat count.toNat = refuse (s.asTaken r) result) :=
      read_refused hadmits hargs (readTableByte_code x first count) ((judgeRead_code _ x first count).trans hread) hresult
    refine ⟨fun hcount => ?_, fun hpositive hmost => ⟨fun hbeyond => ?_, fun hwithin => ⟨fun hlong => ?_, fun hfits => ?_⟩⟩⟩
    · exact refused (by decide) (readTable_of_bad_count hcount)
    · exact refused (by decide) (readTable_of_beyond ⟨hpositive, hmost⟩ (by omega))
    · exact refused (by decide) (readTable_of_too_long ⟨hpositive, hmost⟩ (by omega) hlong)
    · exact read_accepted hadmits hargs ⟨hpositive, hmost⟩ (by omega) hfits
  case counters =>
    cases p with
    | field => exact (record_counters_field _).trans (asTaken_counters s r .field)
    | station => exact (record_counters_station _).trans (asTaken_counters s r .station)

end Sys2Proof.Machine
end

section
/-! What a step can do, said once. The effect of a command on a running part is a run of acts, none of which touches queue,
phase or ports; the line side moves by a few moves of its own; and every command ends in one of the few ways of `Ends`. -/

namespace Sys2Proof.Machine

/-! ## The acts of a running part -/

/-- The records of an accepted SCAN-CHANGE at the points, with the gap's doubt ahead of them and the votes of the doubted
points that no record published behind them (R7, R11). -/
def State.applyChanges (s : State) (b : ScanChangeBody) (doubted : List (Fin 256)) : State :=
  let x := b.records.foldl (applyChange b) (s.gapQualities doubted, [])
  forEach (doubted.filter fun p => p ∉ x.2) (fun p s => s.publishVotes p) x.1

/-- Nothing changes but draws, clock, entries, scanners, inputs, lamp test, coils, lamps and measurements. -/
abbrev State.sameButSensing (s t : State) : Prop :=
  t = { s with
    freeDraws := t.freeDraws, clock := t.clock, entries := t.entries, scanners := t.scanners, inputs := t.inputs
    lampTest := t.lampTest, coils := t.coils, lamps := t.lamps
    health := { s.health with
      hot := t.health.hot, supplyLow := t.health.supplyLow, celsius := t.health.celsius, tenths := t.health.tenths } }

/-- The stored state and the tables in force are well formed together (R2, R176, R184). -/
def State.configurationOk (s : State) : Prop := s.sourceOk ∧ s.frozenOk ∧ s.storeOk

/-- One act of a running part, with what its occasion gives. A hypothesis of the form `Ok → Ok` is the part of an invariant
that the act's own operands decide. -/
inductive Act (s : State) : State → Prop
  | emit (b : ReportBody) : Act s (s.emit b)
  | sensing (t : State) (ht : s.sameButSensing t) : Act s t
  | ackWindow (w : Fin 96) : Act s (s.ackWindow w)
  | resetWindow (w : Fin 96) : Act s (s.resetWindow w)
  | silence : Act s s.silenceHorn
  | writeWindow (w : Fin 96) (r : WindowRecord) : Act s (s.writeWindow w r)
  | resetGroup (g : Fin 8) : Act s (s.resetGroup g)
  | freezeGroup (g : Fin 8) (hdue : s.groups[g].settle.isRunning = true) : Act s (s.freezeGroup g)
  | writeGroup (g : Fin 8) (r : GroupRecord) : Act s (s.writeGroup g r)
  | select (x : Option Selection) (hx : ∀ y, x = some y → y.console.toNat ≤ 15 ∧ y.age.isRunning = true) :
      Act s { s with selection := x }
  | acceptReset (c : Fin 8) (hlocked : s.channels[c].state = .lockout)
      (hbelow : s.channels[c].count < s.tables.trip[c].required) : Act s (s.acceptReset c)
  | endPulse (c : Fin 8) (hfiring : s.channels[c].state = .firing) : Act s (s.endPulse c)
  | writeTrip (c : Fin 8) (r : TripRecord) (hthawed : s.nv.frozen = false) (hflight : s.management.flight = none)
      (hidle : ¬s.channels[c].isActive) : Act s (s.writeTrip c r)
  | changePoint (p : Fin 256) (f : Point → Point)
      (hf : s.points[p].ok s.tables.point[p].service → (f s.points[p]).ok s.tables.point[p].service) :
      Act s (s.changePoint p f)
  | remapPoint (p : Fin 256) (f : Point → Point) (hout : s.tables.point[p].service = .out)
      (hf : s.points[p].ok .out → (f s.points[p]).ok .out) : Act s (s.modPoint p f)
  | writePoint (p : Fin 256) (r : PointRecord) (hout : s.tables.point[p].service = .out) (hr : r.service = .out)
      (hvotes : s.nv.frozen = true → r.votes = s.tables.point[p].votes) (hflight : s.management.flight = none) :
      Act s (s.modTables fun t => { t with point := upd t.point p fun _ => r })
  | serviceOut (p : Fin 256) : Act s (s.serviceOut p)
  | serviceIn (p : Fin 256) : Act s (s.serviceIn p)
  | applyChanges (b : ScanChangeBody) (doubted : List (Fin 256)) : Act s (s.applyChanges b doubted)
  | takeMode (m : ModeTracker) (hm : s.modeOk → { s with mode := m }.modeOk) : Act s (s.takeMode m)
  | unitTimer (x : Timer) (hx : s.modeOk → s.tables.panel.modeSource = .set → x = .stopped) :
      Act s { s with mode := { s.mode with unitTimer := x } }
  | writePanel (p : Panel) : Act s (s.writePanel p)
  | settings (scheme : Scheme) (level : Nat) (direction : Direction) (palette : Vector Colour 8)
      (lampMask : Vector Bool 96) (source : Vector (Option SourceEntry) 24)
      (hsource : s.tables.sourceOk → { s.tables with source := source }.sourceOk) :
      Act s { s with tables := { s.tables with
        panel := { s.tables.panel with scheme := scheme, level := level, direction := direction }
        palette := palette, lampMask := lampMask, source := source } }
  | setFlag (n : Fin 11) : Act s (s.setFlag n)
  | clearHealth : Act s s.clearAllHealth
  | management (m : Management) (hflight : m.flight = s.management.flight)
      (hm : s.managementOk → { s with management := m }.managementOk) : Act s { s with management := m }
  | storage (nv : Nonvolatile) (f : Option Flight) (hlockout : nv.lockout = s.nv.lockout)
      (hok : s.configurationOk → ({ s with nv := nv }.setFlight f).configurationOk) :
      Act s ({ s with nv := nv }.setFlight f)

/-- A run of acts. -/
abbrev Acts : State → State → Prop := Relation.ReflTransGen Act

theorem Acts.one {s t : State} (h : Act s t) : Acts s t := .single h

theorem Acts.rfl {s : State} : Acts s s := .refl

theorem forEach_acts {α : Type} {f : α → State → State} (xs : List α) (s : State)
    (hf : ∀ x ∈ xs, ∀ s, Acts s (f x s)) : Acts s (forEach xs f s) :=
  forEach_keeps (P := Acts s) xs s (fun x hx t ht => ht.trans (hf x hx t)) .refl

/-! ## The moves of the line side -/

/-- One move of the ports by a line event, or by the answer to the operation in flight (R142, R143, R150 to R155, R159). -/
inductive LineMove (s : State) : State → Prop
  | trains (p : PortId) (h : (s.port p).status = .down) :
      LineMove s (s.modPort p fun q => { q with status := .training })
  | goesUp (p : PortId) (h : (s.port p).status = .training) :
      LineMove s (s.modPort p fun q => { q with status := .up, justUp := true })
  | goesDown (p : PortId) :
      LineMove s (s.modPort p fun q =>
        { q with status := .down, fifo := [], slots := [], forwarded := 0, tx := .free, justUp := false })
  | transitSent (p : PortId) (h : (s.port p).tx = .transit) :
      LineMove s (s.modPort p fun q => { q with fifo := q.fifo.tail, tx := .gap, justUp := false })
  | responseSent (p : PortId) (h : (s.port p).tx = .response) :
      LineMove s (s.modPort p fun q => { q.ownSent with slots := q.slots.tail })
  | reportSent (count lost : Nat) (h : s.station.tx = .report count lost) :
      LineMove s { s with reports := s.reports.drop count, lost := s.lost - lost, station := s.station.ownSent }
  | gapPassed (p : PortId) (h : (s.port p).tx = .gap) : LineMove s (s.modPort p fun q => { q with tx := .free })
  | answer (result : ResultCode) : LineMove s (s.answerFlight result)

/-- A run of acts and moves of the line side. -/
abbrev Moves : State → State → Prop := Relation.ReflTransGen fun s t => Act s t ∨ LineMove s t

theorem Acts.moves {s t : State} (h : Acts s t) : Moves s t :=
  Relation.ReflTransGen.mono (fun _ _ => Or.inl) _ _ h

theorem Moves.line {s t : State} (h : LineMove s t) : Moves s t := .single (.inr h)

/-! ## How a command ends -/

/-- The failure counters of a port (R145). -/
inductive Failure : (Port → Port) → Prop
  | crc : Failure fun q => { q with crc := countUp Config.portCounterMax q.crc }
  | length : Failure fun q => { q with length := countUp Config.portCounterMax q.length }
  | stall : Failure fun q => { q with stall := countUp Config.portCounterMax q.stall }

/-- A judgement of a request leaves a run of acts and a key progress in range. -/
structure Judgement.Sound (s : State) (j : Judgement) : Prop where
  acts : Acts s j.state
  progress : j.progress ≤ 3

/-- The ways a command can end. -/
inductive Ends (s : State) : State → Prop
  | rests : Ends s s
  | counts (p : PortId) (f : Port → Port) (hreceives : s.receives p = true) (hf : Failure f) : Ends s (s.modPort p f)
  | event (u : State) (hrunning : s.phase = .running) (hu : Moves s u) : Ends s (settle s u)
  | frame (p : PortId) (f : Frame) (act : State → State) (hreceives : s.receives p = true) (hact : Acts s (act s)) :
      Ends s (passFrame s p f act)
  | request (r : Request) (a : Asked) (judge : State → Judgement) (hreceives : s.receives r.port = true)
      (hjudge : ∀ u, (judge u).Sound u) : Ends s (settle s (s.takeRequest r.port r.id r.src a judge))
  | ends (hon : s.phase ≠ .off) : Ends s s.endOperation
  | resets (kind : ResetKind) (straps : Straps) (hphase : s.phase = .off ∨ s.phase = .running) :
      Ends s ({ s with straps := straps }.takeReset kind)
  | comesUp (kind : ResetKind) (celsius : Int) (tenths : Nat) (hphase : s.phase = .inReset kind) :
      Ends s (s.finishReset kind celsius tenths)

/-! ## The wrappers -/

section Wrappers

variable {s t : State}

theorem eq_of_next {u : State} (h : (Host.Outcome.next u : Host.Outcome State Fault Refusal) = .next t) : u = t := by
  injection h

theorem perform_ends {f : State → State} (hf : s.phase = .running → Moves s (f s)) (h : perform s f = .next t) :
    Ends s t := by
  by_cases hrunning : s.phase = .running
  · rw [perform_running hrunning] at h
    exact eq_of_next h ▸ .event _ hrunning (hf hrunning)
  · rw [perform_resting hrunning] at h
    exact eq_of_next h ▸ .rests

theorem performFrame_ends {p : PortId} {f : Frame} {act : State → State} (hact : Acts s (act s))
    (h : performFrame s p f act = .next t) : Ends s t := by
  by_cases hreceives : s.receives p = true
  · rw [performFrame_received hreceives] at h
    exact eq_of_next h ▸ .frame p f act hreceives hact
  · rw [performFrame, if_neg hreceives] at h
    exact eq_of_next h ▸ .rests

theorem performConsole_ends {c : ConsoleFrame} {code : Byte} {act : State → State}
    (hact : consoleTaken c = true → Acts s (act s)) (h : performConsole s c code act = .next t) : Ends s t := by
  refine performFrame_ends ?_ h
  split
  next htaken => exact hact (Bool.and_eq_true_iff.mp htaken).1
  next => exact .refl

theorem performRequest_ends {r : Request} {a : Asked} {judge : State → Judgement} (hjudge : ∀ u, (judge u).Sound u)
    (h : performRequest s r a judge = .next t) : Ends s t := by
  by_cases hreceives : s.receives r.port = true
  · rw [performRequest_received hreceives] at h
    exact eq_of_next h ▸ .request r a judge hreceives hjudge
  · rw [performRequest, if_neg hreceives] at h
    exact eq_of_next h ▸ .rests

theorem countFailure_ends {p : PortId} {f : Port → Port} (hf : Failure f) (h : countFailure s p f = .next t) :
    Ends s t := by
  unfold countFailure at h
  split at h
  next hreceives => exact eq_of_next h ▸ .counts p f hreceives hf
  next => exact eq_of_next h ▸ .rests

end Wrappers

end Sys2Proof.Machine
end

section
/-! The effects of the blocks as runs of acts: points and scan frames, the mode, the console, health and measurements. -/

namespace Sys2Proof.Machine

/-! ## A point that stays well formed (R15, R16) -/

section PointOk
variable {service : Service} {v : Point}

/-- A new raw input with its stamp, of a quality other than UNSEEN or of the old one, keeps a point well formed. -/
theorem Point.ok_of_raw {q : Quality} (raw : Raw) (stamp : Stamp) (h : v.ok service)
    (hq : q = .unseen → v.quality = .unseen) :
    ({ v with raw := some raw, changeStamp := some stamp, quality := q } : Point).ok service := by
  obtain ⟨hrest, -, halarm, hdelay, -⟩ := h
  exact ⟨fun hsv => hrest (hsv.imp_right hq), by simp, halarm, hdelay, by simp⟩

theorem Point.ok_of_quality {q : Quality} (h : v.ok service) (hq : q = .unseen → v.quality = .unseen) :
    ({ v with quality := q } : Point).ok service := by
  obtain ⟨hrest, hstamp, halarm, hdelay, hraw⟩ := h
  exact ⟨fun hsv => hrest (hsv.imp_right hq), hstamp, halarm, hdelay, hraw⟩

theorem Quality.gapped_unseen {q : Quality} (h : q.gapped = .unseen) : q = .unseen := by
  revert h
  cases q <;> decide

theorem alarmRaw_isSome {r : PointRecord} {raw : Option Raw} (h : alarmRaw r raw = true) : raw.isSome = true := by
  rw [of_decide_eq_true h]
  rfl

/-- The condition machine keeps a point well formed (R16). -/
theorem takeRawChange_ok {r : PointRecord} (h : v.ok r.service) : (takeRawChange r v).ok r.service := by
  by_cases hrest : r.service = .out ∨ v.quality = .unseen
  · rwa [takeRawChange_of_out_or_unseen hrest]
  obtain ⟨hnot, hseen⟩ := not_or.mp hrest
  have hin : r.service = .inn := by
    cases hsv : r.service with
    | out => exact absurd hsv hnot
    | inn => rfl
  obtain ⟨-, hstamp, halarm, hdelay, hraw⟩ := h
  cases hc : v.condition with
  | normal =>
    rw [takeRawChange_of_normal hin hseen hc]
    split
    next hset =>
      have hsome := alarmRaw_isSome hset
      split <;> simp_all [Point.ok, Timer.isRunning]
    next => simp_all [Point.ok]
  | onDelay => rw [takeRawChange_of_onDelay hin hseen hc]; split <;> simp_all [Point.ok, Timer.isRunning]
  | abnormal =>
    rw [takeRawChange_of_abnormal hin hseen hc]
    split
    next => simp_all [Point.ok]
    next => split <;> simp_all [Point.ok, Timer.isRunning]
  | offDelay => rw [takeRawChange_of_offDelay hin hseen hc]; split <;> simp_all [Point.ok, Timer.isRunning]

theorem takeDelayExpiry_ok (h : v.ok service) : (takeDelayExpiry v).ok service := by
  obtain ⟨hrest, hstamp, halarm, hdelay, hraw⟩ := h
  cases hc : v.condition with
  | normal => rw [takeDelayExpiry, hc]; exact ⟨hrest, hstamp, halarm, hdelay, hraw⟩
  | abnormal => rw [takeDelayExpiry, hc]; exact ⟨hrest, hstamp, halarm, hdelay, hraw⟩
  | onDelay => rw [takeDelayExpiry_of_onDelay hc]; simp_all [Point.ok, Timer.isRunning]
  | offDelay => rw [takeDelayExpiry_of_offDelay hc]; simp_all [Point.ok, Timer.isRunning]

/-- All of a SCAN-STATE frame's changes keep a point well formed (R7 to R10). -/
theorem scanPoint_ok {r : PointRecord} {gap covered : Bool} {carried : Option Raw} {t : Stamp} (h : v.ok r.service) :
    (scanPoint r gap covered carried t v).ok r.service := by
  unfold scanPoint
  dsimp only
  have h1 : (if gap = true then { v with quality := v.quality.gapped } else v).ok r.service := by
    split
    · exact Point.ok_of_quality h Quality.gapped_unseen
    · exact h
  generalize (if gap = true then ({ v with quality := v.quality.gapped } : Point) else v) = v1 at h1
  have h2 : (if (carried.isSome && v1.raw ≠ carried) = true then { v1 with raw := carried, changeStamp := some t }
      else v1).ok r.service := by
    split
    next hchanged =>
      obtain ⟨x, rfl⟩ := Option.isSome_iff_exists.mp (Bool.and_eq_true_iff.mp hchanged).1
      exact Point.ok_of_raw x t h1 id
    next => exact h1
  generalize (if (carried.isSome && v1.raw ≠ carried) = true then
    ({ v1 with raw := carried, changeStamp := some t } : Point) else v1) = v2 at h2
  have h3 : (if covered = true then { v2 with quality := .good } else v2).ok r.service := by
    split
    · exact Point.ok_of_quality (q := .good) h2 (fun h => by cases h)
    · exact h2
  split
  · exact takeRawChange_ok h3
  · exact h3

end PointOk

/-! ## Scan frames and readings -/

theorem acceptScan_acts (s : State) (k : Fin 31) (q : Byte) (o : SequenceOutcome) : Acts s (s.acceptScan k q o) := by
  refine .one (.sensing _ ?_)
  unfold State.acceptScan
  dsimp only
  split <;> rfl

theorem coverEntries_acts (s : State) (n count : Nat) : Acts s (s.coverEntries n count) := by
  unfold State.coverEntries
  exact .single (.sensing _ rfl)

theorem resolveGap_acts (s : State) (k : Fin 31) : Acts s (s.resolveGap k) := by
  unfold State.resolveGap
  split
  · exact .single (.sensing _ rfl)
  · exact .refl

theorem scanChannel_acts (s : State) (b : ScanStateBody) (gap : Bool) (c : Nat) : Acts s (s.scanChannel b gap c) := by
  unfold State.scanChannel
  split
  next => exact .refl
  next e p _ =>
    dsimp only
    split
    · exact .refl
    · exact .single (.changePoint p _ fun h => scanPoint_ok h)

theorem takeScanState_acts (s : State) (b : ScanStateBody) : Acts s (s.takeScanState b) := by
  unfold State.takeScanState
  split
  next => exact .refl
  next k _ =>
    dsimp only
    split
    · exact .refl
    · generalize sequenceRule s.scanners[k].last b.seq = o
      exact (((acceptScan_acts s k b.seq o).trans (coverEntries_acts _ _ _)).trans (resolveGap_acts _ k)).trans
        (forEach_acts _ _ fun c _ s => scanChannel_acts s b _ c)

theorem takeScanChange_acts (s : State) (b : ScanChangeBody) : Acts s (s.takeScanChange b) := by
  unfold State.takeScanChange
  split
  next => exact .refl
  next k _ =>
    dsimp only
    split
    · exact .refl
    · exact (acceptScan_acts s k _ _).tail (.applyChanges b _)

theorem takeReading_acts (s : State) (k : Fin 8) (raw : Raw) : Acts s (s.takeReading k raw) := by
  unfold State.takeReading
  split
  · exact .refl
  · dsimp only
    have hinput : Act s { s with inputs := upd s.inputs k fun v => { v with reading := some raw } } := .sensing _ rfl
    refine .head hinput ?_
    split
    next => exact .refl
    next e p _ =>
      exact .single (.changePoint p _ fun h =>
        takeRawChange_ok (Point.ok_of_raw (q := .good) raw s.clock h fun h => by cases h))

theorem freshnessExpires_acts (s : State) (e : Fin 24) : Acts s (s.freshnessExpires e) := by
  unfold State.freshnessExpires
  have hentry : Act s { s with entries := upd s.entries e fun v => { v with freshness := .expired } } := .sensing _ rfl
  refine .head hentry (.tail (forEach_acts _ _ fun p _ s => ?_) (.setFlag _))
  exact .single (.changePoint p _ fun h => Point.ok_of_quality (q := .stale) h fun h => by cases h)

/-! ## The mode (R25, R29, R30) -/

theorem changeTo_modeOk {s : State} (m : Option Mode) (holdMs : Nat) (h : s.modeOk) :
    { s with mode := s.mode.changeTo m holdMs }.modeOk := by
  obtain ⟨hheld, hknown, hunknown, hset⟩ := h
  unfold State.modeOk ModeTracker.changeTo
  dsimp only
  split
  next a b ha =>
    split
    · exact ⟨hheld, hknown, hunknown, hset⟩
    · split <;> simp_all [Timer.isRunning]
  next => simp_all [Timer.isRunning]
  next => simp_all [Timer.isRunning]
  next => exact ⟨hheld, hknown, hunknown, hset⟩

theorem changeMode_acts (s : State) (m : Option Mode) : Acts s (s.changeMode m) :=
  .one (.takeMode _ fun h => changeTo_modeOk m _ h)

theorem startUnitTimer_acts {s : State} (h : s.tables.panel.modeSource = .snoop) : Acts s s.startUnitTimer :=
  .one (.unitTimer _ fun _ hset => by rw [h] at hset; cases hset)

theorem takeUnitStatus_acts (s : State) (body : List Byte) : Acts s (s.takeUnitStatus body) := by
  unfold State.takeUnitStatus
  split
  next =>
    split
    next hsnoop =>
      split
      next => exact .refl
      next => exact (startUnitTimer_acts hsnoop.1).trans (changeMode_acts _ _)
    next => exact .refl
  next => exact .refl

theorem unitTimeout_acts {s : State} (h : s.mode.unitTimer.isDue = true) : Acts s s.unitTimeout := by
  have htimer : s.mode.unitTimer = .running 0 := (Timer.isDue_iff _).mp h
  refine .tail (.head (.unitTimer .expired fun hok hset => ?_) (changeMode_acts _ _)) (.setFlag _)
  obtain ⟨-, -, -, hstopped⟩ := hok
  rw [hstopped hset] at htimer
  cases htimer

theorem holdExpires_acts (s : State) : Acts s s.holdExpires :=
  .one (.takeMode _ fun ⟨_, hknown, _, hset⟩ => ⟨by simp [Timer.isRunning], hknown, fun _ => rfl, hset⟩)

theorem takeTimeMark_acts (s : State) (body : List Byte) : Acts s (s.takeTimeMark body) := by
  unfold State.takeTimeMark
  split
  · exact .single (.sensing _ rfl)
  · exact .refl

/-! ## The console -/

theorem onWindows_acts (s : State) (c : ConsoleFrame) (command : Byte) {f : Fin 96 → State → State}
    (hf : ∀ w s, Act s (f w s)) : Acts s (s.onWindows c command f) := by
  unfold State.onWindows
  split
  next => exact .single (.emit _)
  next ws _ => exact forEach_acts _ _ fun w _ s => .one (hf w s)

theorem holdSelection_acts {s : State} {console : Byte} (x : Target) (h : console.toNat ≤ 15) :
    Acts s (s.holdSelection console x) := by
  refine .tail (Acts.one (.select _ ?_)) (.emit _)
  rintro y ⟨⟩
  exact ⟨h, rfl⟩

theorem takeSelect_acts {s : State} {c : ConsoleFrame} (h : c.console.toNat ≤ 15) : Acts s (s.takeSelect c) := by
  unfold State.takeSelect
  split
  next => exact .single (.emit _)
  next x _ =>
    split
    · exact .single (.emit _)
    · unfold State.acceptSelect
      split
      next => exact holdSelection_acts x h
      next =>
        split
        · exact holdSelection_acts x h
        · exact .head (.emit _) (holdSelection_acts x h)

theorem emptySlot_acts (s : State) : Acts s s.emptySlot := .one (.select none fun y hy => by cases hy)

theorem performTarget_acts (s : State) (c : ConsoleFrame) (x : Target) : Acts s (s.performTarget c x) := by
  cases x with
  | group g => exact .single (.resetGroup g)
  | trip n =>
    by_cases hlocked : s.channels[n].state = .lockout
    · by_cases hbelow : s.channels[n].count < s.tables.trip[n].required
      · simp only [State.performTarget, judgeReset_of_lockout hlocked, if_pos hbelow]
        exact .single (.acceptReset n hlocked hbelow)
      · simp only [State.performTarget, judgeReset_of_lockout hlocked, if_neg hbelow]
        exact .single (.emit _)
    · by_cases hfiring : s.channels[n].state = .firing
      · simp only [State.performTarget, judgeReset_of_firing hfiring]
        exact .single (.emit _)
      · simp only [State.performTarget, judgeReset_of_idle hlocked hfiring]
        exact .single (.emit _)

theorem takeExecute_acts (s : State) (c : ConsoleFrame) : Acts s (s.takeExecute c) := by
  unfold State.takeExecute
  split
  next =>
    split
    · exact .refl
    · exact .single (.emit _)
  next =>
    split
    · exact (emptySlot_acts s).trans (performTarget_acts _ c _)
    · exact .single (.emit _)

theorem takeCancel_acts (s : State) (c : ConsoleFrame) : Acts s (s.takeCancel c) := by
  unfold State.takeCancel
  split
  next => exact .refl
  next =>
    split
    · exact (emptySlot_acts s).tail (.emit _)
    · exact .refl

theorem ageExpires_acts (s : State) : Acts s s.ageExpires := by
  unfold State.ageExpires
  split
  next => exact .refl
  next =>
    split
    · exact (emptySlot_acts s).tail (.emit _)
    · exact .refl

theorem stopLampTest_acts (s : State) : Acts s s.stopLampTest := .one (.sensing _ rfl)

/-! ## Health, checks and measurements -/

theorem evaluateLampFault_acts (s : State) : Acts s s.evaluateLampFault := by
  unfold State.evaluateLampFault
  split
  · exact .single (.setFlag _)
  · exact .refl

theorem checkLamp_acts (s : State) (w : Fin 96) (red green blue : ElementReading) :
    Acts s (s.checkLamp w red green blue) := by
  unfold State.checkLamp
  have hlamp : Act s { s with lamps := upd s.lamps w fun _ =>
      (s.lamps[w].take (lampReading (s.lampDrive w) red green blue)).1 } := .sensing _ rfl
  refine .head hlamp ?_
  dsimp only
  split
  · exact evaluateLampFault_acts _
  · exact .refl

theorem checkCoil_acts (s : State) (c : Fin 8) (reading : CoilState) : Acts s (s.checkCoil c reading) := by
  unfold State.checkCoil
  have hcoil : Act s { s with coils := upd s.coils c fun v => v.take reading } := .sensing _ rfl
  refine .head hcoil ?_
  dsimp only
  split
  · exact .refl
  · refine .head (.emit (.coil c (s.coils[c].take reading).state)) ?_
    split
    · exact .refl
    · exact .single (.setFlag _)

theorem takeTemperature_acts (s : State) (celsius : Int) : Acts s (s.takeTemperature celsius) := by
  unfold State.takeTemperature
  dsimp only
  generalize (if s.health.hot = true then decide (Config.hotEndsAt < celsius) else decide (Config.hotAbove < celsius)) = hot
  have hread : Act s { s with health := { s.health with celsius := celsius, hot := hot } } := .sensing _ rfl
  refine .head hread ?_
  split
  · exact .single (.setFlag _)
  · exact .refl

end Sys2Proof.Machine
end

section
/-! Requests as sound judgements: each leaves a run of acts behind it, and a key progress in range. -/

namespace Sys2Proof.Machine

/-! ## Judgements -/

section Judgements
variable {s u : State}

theorem refuse_sound (s : State) (r : ResultCode) : (refuse s r).Sound s := ⟨.refl, Nat.zero_le _⟩

theorem done_sound (h : Acts s u) : (done u).Sound s := ⟨h, Nat.zero_le _⟩

theorem answer_sound (h : Acts s u) (data : List Byte) : (answer u data).Sound s := ⟨h, Nat.zero_le _⟩

theorem noArgs_sound {j : Judgement} (args : List Byte) (h : j.Sound s) : (noArgs s args j).Sound s := by
  unfold noArgs
  split
  · exact h
  · exact refuse_sound s _

theorem unlessFlight_sound {j : Judgement} (h : s.management.flight = none → j.Sound s) : (unlessFlight s j).Sound s := by
  unfold unlessFlight
  split
  next => exact refuse_sound s _
  next hnone => exact h (Option.not_isSome_iff_eq_none.mp hnone)

theorem unlessHeldBack_sound {j : Judgement} (h : s.management.flight = none → j.Sound s) :
    (unlessHeldBack s j).Sound s := by
  unfold unlessHeldBack
  split
  next => exact refuse_sound s _
  next hfree =>
    rw [Bool.or_eq_true, not_or] at hfree
    exact h (Option.not_isSome_iff_eq_none.mp hfree.1)

/-- Management state that keeps flight and its bounds. -/
theorem management_acts (m : Management) (hflight : m.flight = s.management.flight)
    (hm : s.managementOk → { s with management := m }.managementOk) : Acts s { s with management := m } :=
  .single (.management m hflight hm)

theorem setPointer_acts {t : TableId} {i : Nat} (h : s.managementOk → i ≤ t.size) : Acts s (s.setPointer t i) :=
  management_acts _ rfl fun hok => ⟨hok.1, hok.2.1, h hok, hok.2.2.2⟩

theorem written_sound {t : TableId} {i : Nat} (h : Acts s u) (hi : i < t.size) : (written u t i).Sound s :=
  done_sound (h.trans (setPointer_acts fun _ => hi))

theorem judgeWrite_sound {α : Type} {n : Nat} {args : List Byte} {parse : List Byte → Option (Option α)}
    {own : Fin n → α → Judgement}
    (h : ∀ rec i x, parse rec = some (some x) → s.management.flight = none → (own i x).Sound s) :
    (s.judgeWrite n args parse own).Sound s := by
  unfold State.judgeWrite
  split
  next => exact refuse_sound s _
  next i rec =>
    split
    next => exact refuse_sound s _
    next value hparse =>
      refine unlessFlight_sound fun hflight => ?_
      split
      next => exact refuse_sound s _
      next =>
        split
        next => exact refuse_sound s _
        next => exact h rec _ _ hparse hflight

end Judgements

/-! ## Reading, service, locks and the reset key -/

theorem judgeRead_sound (s : State) (args : List Byte) : (s.judgeRead args).Sound s := by
  unfold State.judgeRead
  split
  next =>
    split
    next => exact refuse_sound s _
    next t _ =>
      unfold State.readTable
      split
      next => exact refuse_sound s _
      next hcount =>
        split
        next => exact refuse_sound s _
        next hsize =>
          split
          next => exact refuse_sound s _
          next =>
            refine answer_sound ((setPointer_acts fun _ => Nat.le_of_not_lt hsize).trans ?_) _
            exact management_acts _ rfl fun hok => ⟨hok.1, hok.2.1, hok.2.2.1, not_not.mp hcount⟩
  next => exact refuse_sound s _

theorem judgeReadNext_sound (s : State) : s.judgeReadNext.Sound s := by
  unfold State.judgeReadNext
  dsimp only
  split
  next => exact refuse_sound s _
  next hmore =>
    refine answer_sound (setPointer_acts fun _ => ?_) _
    have hle : s.nextCount ≤ s.management.readTable.size - s.management.readIndex :=
      (Nat.min_le_right _ _).trans (Nat.min_le_left _ _)
    omega

theorem judgeService_sound (s : State) (args : List Byte) : (s.judgeService args).Sound s := by
  unfold State.judgeService
  split
  next =>
    refine unlessFlight_sound fun _ => ?_
    split
    next => exact refuse_sound s _
    next =>
      split
      next => exact refuse_sound s _
      next => exact done_sound (.single (.serviceOut _))
      next => exact done_sound (.single (.serviceIn _))
  next => exact refuse_sound s _

theorem judgeLock_sound (s : State) (l : Lock) (args : List Byte) : (s.judgeLock l args).Sound s := by
  unfold State.judgeLock
  split
  next =>
    split
    next => exact refuse_sound s _
    next =>
      split
      next => exact refuse_sound s _
      next => exact done_sound (management_acts _ rfl id)
  next => exact refuse_sound s _

theorem judgeLockAll_sound (s : State) (l : Lock) : (s.judgeLockAll l).Sound s := by
  unfold State.judgeLockAll
  split
  next => exact refuse_sound s _
  next => exact done_sound (management_acts _ rfl id)

/-- PROTECT and the display tables as one act each. -/
theorem setProtection_acts (s : State) (scheme : Scheme) (level : Nat) (direction : Direction) :
    Acts s (s.setProtection scheme level direction) :=
  .single (.settings scheme level direction s.tables.palette s.tables.lampMask s.tables.source id)

theorem judgeProtect_sound (s : State) (args : List Byte) : (s.judgeProtect args).Sound s := by
  unfold State.judgeProtect
  split
  next =>
    refine unlessFlight_sound fun _ => ?_
    split
    next => exact refuse_sound s _
    next =>
      split
      next => exact done_sound (setProtection_acts s _ _ _)
      next => exact refuse_sound s _
  next => exact refuse_sound s _

/-- A key takes the progress to 3 at most (R177). -/
theorem keyStep_le (progress : Nat) (key : Byte) : (keyStep progress key).1 ≤ 3 := by
  unfold keyStep
  repeat' split
  all_goals (dsimp only; omega)

theorem judgeKey_sound (s : State) (args : List Byte) : (s.judgeKey args).Sound s := by
  unfold State.judgeKey
  split
  next =>
    split
    next => exact refuse_sound s _
    next => exact ⟨.refl, keyStep_le _ _⟩
  next => exact refuse_sound s _

theorem judgeSetMode_sound (s : State) (args : List Byte) : (s.judgeSetMode args).Sound s := by
  unfold State.judgeSetMode
  split
  next =>
    split
    next => exact refuse_sound s _
    next =>
      split
      next => exact refuse_sound s _
      next => exact done_sound (changeMode_acts s _)
  next => exact refuse_sound s _

/-! ## FREEZE-TRIP and STORE (R176, R184) -/

theorem judgeFreeze_sound (s : State) : s.judgeFreeze.Sound s := by
  refine unlessHeldBack_sound fun _ => ?_
  split
  next => exact refuse_sound s _
  next hthawed =>
    split
    next => exact refuse_sound s _
    next =>
      split
      next => exact refuse_sound s _
      next =>
        split
        next => exact refuse_sound s _
        next =>
          refine ⟨.single (.storage s.nv _ rfl fun ⟨⟨htables, himage, _⟩, ⟨hfrozen, _⟩, _⟩ => ?_), Nat.zero_le _⟩
          refine ⟨⟨htables, himage, fun v b h => by cases h⟩, ⟨hfrozen, ?_⟩, fun v stage h => by cases h⟩
          rintro v ⟨⟩
          exact ⟨eq_false_of_ne_true hthawed, rfl⟩

theorem beginStore_acts (s : State) : Acts s s.beginStore := by
  refine .single (.storage { s.nv with markValid := false } (some (.store s.tables .accepted)) rfl
    fun ⟨⟨htables, himage, _⟩, ⟨hfrozen, _⟩, _⟩ => ?_)
  refine ⟨⟨htables, himage, ?_⟩, ⟨hfrozen, fun v h => by cases h⟩, fun _ _ _ => rfl⟩
  rintro v b ⟨⟩
  exact htables

theorem judgeStore_sound (s : State) : s.judgeStore.Sound s := by
  refine unlessHeldBack_sound fun _ => ?_
  split
  next => exact ⟨.single (.setFlag _), Nat.zero_le _⟩
  next => exact ⟨beginStore_acts s, Nat.zero_le _⟩

/-! ## A SOURCE write (R2, R3) -/

theorem parseSource_inRange {rec : List Byte} {e : SourceEntry} (h : parseSource rec = some (some (some e))) :
    e.inRange := by
  unfold parseSource at h
  split at h
  next =>
    simp only [Option.some.injEq] at h
    split at h
    next => cases h
    next =>
      simp only [within, Option.bind_eq_bind, Option.bind_eq_some_iff, Option.ite_none_right_eq_some,
        Option.some.injEq] at h
      obtain ⟨scanner, -, first, ⟨-, rfl⟩, count, ⟨hcount, rfl⟩, period, ⟨hperiod, rfl⟩, multiple, ⟨hmultiple, rfl⟩,
        ⟨hchannels, hpoints⟩, rfl⟩ := h
      exact ⟨hcount.1, hchannels, hpoints, hperiod.1, hperiod.2, hmultiple.1, hmultiple.2⟩
  next => cases h

theorem rangesMeet_eq_false {a n b m : Nat} : rangesMeet a n b m = false ↔ a + n ≤ b ∨ b + m ≤ a := by
  simp only [rangesMeet, Bool.and_eq_false_iff, decide_eq_false_iff_not]
  omega

/-- The model's test of overlap is the rule of R2. -/
theorem sourceOverlaps_eq_false {s : State} {i : Fin 24} {e : SourceEntry} :
    s.sourceOverlaps i e = false ↔ ∀ j o, j ≠ i → s.tables.source[j] = some o → e.apart o := by
  unfold State.sourceOverlaps
  rw [List.any_eq_false]
  constructor
  · intro h j o hne ho
    have hj := h j (mem_ascending j)
    simp only [hne, ho, ne_eq, not_false_eq_true, decide_true, Bool.true_and, Bool.not_eq_true, Bool.or_eq_false_iff,
      Bool.and_eq_false_imp, decide_eq_true_eq, rangesMeet_eq_false] at hj
    exact hj
  · intro h j _
    by_cases hne : j = i
    · simp [hne]
    · cases ho : s.tables.source[j] with
      | none => simp
      | some o =>
        have hj := h j o hne ho
        simp only [hne, ne_eq, not_false_eq_true, decide_true, Bool.true_and, Bool.not_eq_true,
          Bool.or_eq_false_iff, Bool.and_eq_false_imp, decide_eq_true_eq, rangesMeet_eq_false]
        exact hj

theorem SourceEntry.apart.symm {a b : SourceEntry} (h : a.apart b) : b.apart a :=
  ⟨h.1.symm, fun hs => (h.2 hs.symm).symm⟩

/-- An entry in range that overlaps no other may be written (R2). -/
theorem sourceOk_upd {s : State} {i : Fin 24} {e : Option SourceEntry} (hrange : ∀ x, e = some x → x.inRange)
    (hapart : ∀ x, e = some x → s.sourceOverlaps i x = false) (h : s.tables.sourceOk) :
    ({ s.tables with source := upd s.tables.source i fun _ => e } : Tables).sourceOk := by
  intro j k a b ha hb
  simp only [upd_get] at ha hb
  split at ha
  next hj =>
    subst hj
    refine ⟨hrange a ha, fun hne => ?_⟩
    rw [if_neg hne] at hb
    exact sourceOverlaps_eq_false.mp (hapart a ha) k b hne.symm hb
  next hj =>
    split at hb
    next hk =>
      subst hk
      refine ⟨(h j j a a ha ha).1, fun _ => ?_⟩
      exact (sourceOverlaps_eq_false.mp (hapart b hb) j a (Ne.symm hj) ha).symm
    next => exact h j k a b ha hb

/-- Points out of service may be moved one after another. -/
theorem remapPoints_acts {f : Point → Point} (hf : ∀ v : Point, v.ok .out → (f v).ok .out) (ps : List (Fin 256)) (s : State)
    (hout : ∀ p ∈ ps, s.tables.point[p].service = .out) : Acts s (forEach ps (fun p s => s.modPoint p f) s) := by
  induction ps generalizing s with
  | nil => exact .refl
  | cons p ps ih =>
    refine .head (.remapPoint p f (hout p List.mem_cons_self) (hf _)) (ih (s.modPoint p f) fun q hq => ?_)
    exact hout q (List.mem_cons_of_mem p hq)

theorem Point.unmapped_ok {v : Point} (h : v.ok .out) : v.unmapped.ok .out := by
  obtain ⟨hrest, -, halarm, -, -⟩ := h
  have hnormal := hrest (.inl rfl)
  simp_all [Point.ok, Point.unmapped, Timer.isRunning]

/-- The channel of an entry lands in its range of points. -/
theorem mem_range_of_pointOf {e : SourceEntry} {c : Nat} {p : Fin 256} (h : e.pointOf c = some p) : p ∈ e.range := by
  unfold SourceEntry.pointOf at h
  split at h
  next hin =>
    rw [Bool.and_eq_true, decide_eq_true_iff, decide_eq_true_iff] at hin
    exact List.mem_filterMap.mpr ⟨c - e.firstChannel, List.mem_range.mpr (by omega), h⟩
  next => cases h

theorem takePresentReading_point (s : State) (r : SourceEntry) (c : Fin 8) :
    (s.takePresentReading r c).tables = s.tables := by
  unfold State.takePresentReading
  split <;> rfl

theorem takePresentReading_acts {s : State} {r : SourceEntry} (hout : ∀ p ∈ r.range, s.tables.point[p].service = .out)
    (c : Fin 8) : Acts s (s.takePresentReading r c) := by
  unfold State.takePresentReading
  split
  next p raw hp _ =>
    exact .single (.remapPoint p _ (hout p (mem_range_of_pointOf hp)) fun h =>
      Point.ok_of_raw (q := .good) raw s.clock h fun h => by cases h)
  next => exact .refl

theorem resolveGapOf_acts (s : State) (e : Option SourceEntry) : Acts s (s.resolveGapOf e) := by
  unfold State.resolveGapOf
  split
  next => exact .refl
  next =>
    split
    next => exact .refl
    next => exact resolveGap_acts s _

theorem takePresentReadings_acts {r : SourceEntry} (cs : List (Fin 8)) (s : State)
    (hout : ∀ p ∈ r.range, s.tables.point[p].service = .out) :
    Acts s (forEach cs (fun c s => s.takePresentReading r c) s) := by
  induction cs generalizing s with
  | nil => exact .refl
  | cons c cs ih =>
    refine (takePresentReading_acts hout c).trans (ih _ fun p hp => ?_)
    rw [takePresentReading_point]
    exact hout p hp

theorem writeSource_acts {s : State} {i : Fin 24} {e : Option SourceEntry} (hrange : ∀ x, e = some x → x.inRange)
    (hapart : ∀ x, e = some x → s.sourceOverlaps i x = false)
    (hout : ∀ p ∈ rangeOf s.tables.source[i] ++ rangeOf e, s.tables.point[p].service = .out) :
    Acts s (s.writeSource i e) := by
  unfold State.writeSource
  dsimp only
  have htable : Acts s (s.modTables fun t => { t with source := upd t.source i fun _ => e }) :=
    .single (.settings _ _ _ _ _ (upd s.tables.source i fun _ => e) (sourceOk_upd hrange hapart))
  have hentry (u : State) : Acts u { u with
      entries := upd u.entries i fun _ => { freshness := .stopped, gapPending := false } } :=
    .single (.sensing _ rfl)
  refine .trans ?_ (resolveGapOf_acts _ e)
  refine .trans ?_ (resolveGapOf_acts _ _)
  have hremap := (htable.trans (hentry _)).trans
    (remapPoints_acts (f := Point.unmapped) (fun _ => Point.unmapped_ok) (rangeOf s.tables.source[i] ++ rangeOf e) _ hout)
  have htables : ∀ (ps : List (Fin 256)) (u : State),
      (forEach ps (fun p s => s.modPoint p Point.unmapped) u).tables = u.tables := fun ps u =>
    forEach_eq (m := State.tables) ps u fun _ _ _ => rfl
  split
  next => exact hremap
  next r =>
    split
    next =>
      refine hremap.trans (takePresentReadings_acts _ _ fun p hp => ?_)
      rw [htables]
      exact hout p (List.mem_append_right _ hp)
    next => exact hremap

theorem judgeSource_sound {s : State} {i : Fin 24} {e : Option SourceEntry} (hrange : ∀ x, e = some x → x.inRange) :
    (s.judgeSource i e).Sound s := by
  have hbehind (hapart : ∀ x, e = some x → s.sourceOverlaps i x = false) :
      (if (rangeOf s.tables.source[i] ++ rangeOf e).any fun p => s.tables.point[p].service = .inn then
        refuse s .refusedInService else written (s.writeSource i e) .source i.val).Sound s := by
    split
    next => exact refuse_sound s _
    next hserved =>
      refine written_sound (t := .source) (writeSource_acts hrange hapart fun p hp => ?_) i.isLt
      rw [List.any_eq_true] at hserved
      cases hsv : s.tables.point[p].service with
      | out => rfl
      | inn => exact absurd ⟨p, hp, decide_eq_true hsv⟩ hserved
  unfold State.judgeSource
  cases e with
  | none => exact hbehind fun x h => by cases h
  | some x =>
    dsimp only
    split
    next => exact refuse_sound s _
    next hapart =>
      refine hbehind ?_
      rintro _ ⟨⟩
      exact eq_false_of_ne_true hapart

/-! ## The other WRITE requests -/

theorem parsePoint_service {rec : List Byte} {r : PointRecord} (h : parsePoint rec = some (some r)) : r.service = .out := by
  unfold parsePoint at h
  split at h
  next =>
    rw [Option.some.injEq] at h
    split at h
    next =>
      simp only [Option.bind_eq_bind, Option.bind_eq_some_iff, Option.some.injEq] at h
      obtain ⟨_, rfl, _, -, _, -, _, -, _, -, _, -, _, -, _, -, rfl⟩ := h
      rfl
    next => cases h
  next => cases h

theorem judgePoint_sound {s : State} {p : Fin 256} {r : PointRecord} (hr : r.service = .out)
    (hflight : s.management.flight = none) : (s.judgePoint p r).Sound s := by
  unfold State.judgePoint
  split
  next => exact refuse_sound s _
  next =>
    split
    next => exact refuse_sound s _
    next hin =>
      split
      next => exact refuse_sound s _
      next hfrozen =>
        have hout : s.tables.point[p].service = .out := by
          cases hsv : s.tables.point[p].service with
          | out => rfl
          | inn => exact absurd hsv hin
        refine written_sound (.single (.writePoint p r hout hr (fun hf => ?_) hflight)) p.isLt
        rw [Bool.and_eq_true, hf, not_and] at hfrozen
        exact (not_not.mp fun hne => hfrozen rfl (decide_eq_true hne)).symm

theorem judgeTrip_sound {s : State} (c : Fin 8) (r : TripRecord) (hflight : s.management.flight = none) :
    (s.judgeTrip c r).Sound s := by
  unfold State.judgeTrip
  split
  next => exact refuse_sound s _
  next hthawed =>
    split
    next => exact refuse_sound s _
    next =>
      split
      next => exact refuse_sound s _
      next hidle =>
        rw [Bool.or_eq_true, decide_eq_true_iff, decide_eq_true_iff] at hidle
        exact written_sound (.single (.writeTrip c r (eq_false_of_ne_true hthawed) hflight hidle)) c.isLt

theorem writeColour_acts (s : State) (i : Fin 8) (c : Colour) : Acts s (s.writeColour i c) :=
  .single (.settings s.tables.panel.scheme s.tables.panel.level s.tables.panel.direction
    (upd s.tables.palette i fun _ => c) s.tables.lampMask s.tables.source id)

theorem withLampMask_acts (s : State) (w : Fin 96) (m : Bool) : Acts s (s.withLampMask w m) :=
  .single (.settings s.tables.panel.scheme s.tables.panel.level s.tables.panel.direction
    s.tables.palette (upd s.tables.lampMask w fun _ => m) s.tables.source id)

theorem writeLampMask_acts (s : State) (w : Fin 96) (m : Bool) : Acts s (s.writeLampMask w m) :=
  (withLampMask_acts s w m).trans (evaluateLampFault_acts _)

/-! ## The store and the supply (R134, R176, R184, R185) -/

theorem completeStore_moves (s : State) : Moves s s.completeStore := by
  unfold State.completeStore
  split
  next values stage hflight =>
    have hstored : Act s ({ s with nv := s.nv.completeStore values }.setFlight none) := by
      refine .storage _ _ rfl fun ⟨⟨htables, _, hvalues⟩, ⟨hfrozen, _⟩, _⟩ => ?_
      exact ⟨⟨htables, hvalues values stage hflight, fun v b h => by cases h⟩, ⟨hfrozen, fun v h => by cases h⟩,
        fun v st h => by cases h⟩
    exact ((Acts.one hstored).moves.tail (.inr (.answer .done))).tail (.inl (.emit _))
  next => exact .refl

theorem completeFreeze_moves (s : State) : Moves s s.completeFreeze := by
  unfold State.completeFreeze
  split
  next values hflight =>
    have hstored : Act s ({ s with nv := { s.nv with tripArea := some values, frozen := true } }.setFlight none) := by
      refine .storage _ _ rfl fun ⟨⟨htables, himage, _⟩, ⟨_, hfreeze⟩, _⟩ => ?_
      refine ⟨⟨htables, himage, fun v b h => by cases h⟩, ⟨fun _ => ⟨values, rfl, fun _ => ?_⟩, fun v h => by cases h⟩,
        fun v st h => by cases h⟩
      exact (hfreeze values hflight).2.symm
    exact (Acts.one hstored).moves.tail (.inr (.answer .done))
  next => exact .refl

/-- An operation that leaves flight leaves the stored state well formed. -/
theorem abandon_act (s : State) : Act s (s.setFlight none) :=
  .storage s.nv none rfl fun ⟨⟨htables, himage, _⟩, ⟨hfrozen, _⟩, _⟩ =>
    ⟨⟨htables, himage, fun v b h => by cases h⟩, ⟨hfrozen, fun v h => by cases h⟩, fun v st h => by cases h⟩

theorem noteRefusal_acts (s : State) (r : LastRefusal) : Acts s (s.noteRefusal r) := management_acts _ rfl id

theorem supplyLowMeetsFlight_moves (s : State) : Moves s s.supplyLowMeetsFlight := by
  unfold State.supplyLowMeetsFlight
  split
  next => exact .refl
  next values stage hflight =>
    dsimp only
    have hdrawn : Act s { s with freeDraws := s.freeDraws + 1 } := .sensing _ rfl
    refine (Acts.one hdrawn).moves.trans ?_
    split
    next =>
      refine (Acts.one (s := { s with freeDraws := s.freeDraws + 1 }) (.storage s.nv (some (.store values .final)) rfl
        fun ⟨⟨htables, himage, hvalues⟩, ⟨hfrozen, _⟩, hmark⟩ => ?_)).moves
      refine ⟨⟨htables, himage, ?_⟩, ⟨hfrozen, fun v h => by cases h⟩, ?_⟩
      · rintro v b ⟨⟩
        exact hvalues values stage hflight
      · rintro v b ⟨⟩
        exact hmark values stage hflight
    next =>
      refine Relation.ReflTransGen.trans ?_ (noteRefusal_acts _ _).moves
      exact (((Acts.one (abandon_act _)).moves.tail (.inl (.setFlag _))).tail (.inl (.emit _))).tail (.inr (.answer .busy))
  next values hflight =>
    have habandoned : Act s ({ s with nv := { s.nv with tripArea := none } }.setFlight none) := by
      refine .storage _ _ rfl fun ⟨⟨htables, himage, _⟩, ⟨_, hfreeze⟩, _⟩ => ?_
      refine ⟨⟨htables, himage, fun v b h => by cases h⟩, ⟨fun hfrozen => ?_, fun v h => by cases h⟩,
        fun v st h => by cases h⟩
      cases hfrozen.symm.trans (hfreeze values hflight).1
    exact ((Acts.one habandoned).moves.tail (.inr (.answer .busy))).trans (noteRefusal_acts _ _).moves

theorem takeSupply_moves {s : State} {tenths : Nat} (h : ¬tenths < Config.operationEndsBelow) :
    Moves s (s.takeSupply tenths) := by
  unfold State.takeSupply
  rw [if_neg h]
  dsimp only
  generalize (if s.health.supplyLow = true then decide (tenths < Config.supplyLowEndsAt)
    else decide (tenths < Config.supplyLowBelow)) = low
  have hread : Act s { s with health := { s.health with tenths := tenths, supplyLow := low } } := .sensing _ rfl
  refine (Acts.one hread).moves.trans ?_
  split
  · exact (Acts.one (.setFlag _)).moves.trans (supplyLowMeetsFlight_moves _)
  · exact .refl

end Sys2Proof.Machine
end

section
/-! Every command ends in one of the ways of `Ends`: the arms of `exec`, each by the runs of acts of its effect. -/

namespace Sys2Proof.Machine

variable {s t : State}

/-! ## Line events -/

theorem setProgress_acts (s : State) {n : Nat} (hn : n ≤ 3) : Acts s (s.setProgress n) := by
  refine management_acts _ rfl fun hok => ⟨hn, ?_, hok.2.2⟩
  by_cases hzero : n = 0 <;> simp [hzero, Timer.isRunning]

theorem responsesLeave_acts (s : State) (slots : List Slot) : Acts s (s.responsesLeave slots) := by
  unfold State.responsesLeave
  split
  · exact management_acts _ rfl id
  · exact .refl

theorem portTrains_moves (s : State) (p : PortId) : Moves s (s.portTrains p) := by
  unfold State.portTrains
  split
  next h => exact .line (.trains p h)
  next => exact .refl

theorem portGoesUp_moves (s : State) (p : PortId) : Moves s (s.portGoesUp p) := by
  unfold State.portGoesUp
  split
  next h => exact .line (.goesUp p h)
  next => exact .refl

theorem portGoesDown_moves (s : State) (p : PortId) : Moves s (s.portGoesDown p) :=
  ((Moves.line (.goesDown p)).trans (responsesLeave_acts _ _).moves).tail (.inl (.setFlag _))

theorem transitSent_moves (s : State) (p : PortId) : Moves s (s.transitSent p) := by
  unfold State.transitSent
  split
  next h => exact .line (.transitSent p h)
  next => exact .refl

theorem responseSent_moves (s : State) (p : PortId) : Moves s (s.responseSent p) := by
  unfold State.responseSent
  split
  next h => exact (Moves.line (.responseSent p h)).trans (responsesLeave_acts _ _).moves
  next => exact .refl

theorem reportSent_moves (s : State) : Moves s s.reportSent := by
  unfold State.reportSent
  split
  next h => exact .line (.reportSent _ _ h)
  next => exact .refl

theorem gapPassed_moves (s : State) (p : PortId) : Moves s (s.gapPassed p) := by
  unfold State.gapPassed
  split
  next h => exact .line (.gapPassed p h)
  next => exact .refl

/-! ## Resets and the supply -/

/-- The arbiters have nothing to move on a part that has just taken its reset values. -/
theorem settle_takeReset (before s : State) (kind : ResetKind) :
    settle before (s.takeReset kind) = s.takeReset kind := by
  have none : ∀ q : PortId, (s.takeReset kind).ownFrame q = none := fun q => by cases q <;> rfl
  have still : ∀ q : PortId, settlePort before q (s.takeReset kind) = s.takeReset kind := fun q => by
    unfold settlePort
    rw [none]
    cases q <;> cases before.ownFrame _ <;> rfl
  unfold settle
  rw [still, still]

/-- An event that may take a supply reading: the loss of supply ends operation, and every other reading is a run of moves. -/
theorem performSupply_ends {tenths : Nat} {takes : State → Bool}
    (h : perform s (fun s => if takes s then s.takeSupply tenths else s) = .next t) : Ends s t := by
  by_cases hrunning : s.phase = .running
  · by_cases htakes : takes s = true
    · by_cases hends : tenths < Config.operationEndsBelow
      · rw [perform_running hrunning, if_pos htakes, State.takeSupply, if_pos hends, settle_endOperation] at h
        exact eq_of_next h ▸ .ends (by rw [hrunning]; decide)
      · exact perform_ends (fun _ => by rw [if_pos htakes]; exact takeSupply_moves hends) h
    · exact perform_ends (fun _ => by rw [if_neg htakes]) h
  · rw [perform_resting hrunning] at h
    exact eq_of_next h ▸ .rests

theorem patternResetStart_ends (h : execPatternResetStart s = .next t) : Ends s t := by
  unfold execPatternResetStart at h
  by_cases hstarts : s.phase = .running ∧ ¬s.resetWaits = true
  · obtain ⟨hrunning, hready⟩ := hstarts
    rw [perform_running hrunning, if_neg hready, settle_takeReset] at h
    exact eq_of_next h ▸ .resets .pattern s.straps (.inr hrunning)
  · refine perform_ends (fun hrunning => ?_) h
    rw [if_pos (not_not.mp fun hready => hstarts ⟨hrunning, hready⟩)]

theorem operationEnds_ends (h : exec .operationEnds s = .next t) : Ends s t := by
  have hnext : Host.Outcome.next (if s.phase = .off then s else s.endOperation) = .next t := h
  split at hnext
  next => exact eq_of_next hnext ▸ .rests
  next hon => exact eq_of_next hnext ▸ .ends hon

theorem powerOnReset_ends {a b c rate : Fin 4} (h : exec (.powerOnReset a b c rate) s = .next t) : Ends s t := by
  have hnext : Host.Outcome.next
    (if s.phase = .off then ({ s with straps := ⟨a, b, c, rate⟩ } : State).takeReset .powerOn else s) = .next t := h
  split at hnext
  next hoff => exact eq_of_next hnext ▸ .resets .powerOn ⟨a, b, c, rate⟩ (.inl hoff)
  next => exact eq_of_next hnext ▸ .rests

theorem endOfReset_ends {x : Int} {v : Nat} (h : execEndOfReset x v s = .next t) : Ends s t := by
  unfold execEndOfReset at h
  have h := eq_of_next h
  split at h
  next kind hphase =>
    split at h
    next => exact h ▸ .ends (by rw [hphase]; simp)
    next => exact h ▸ .comesUp kind x v hphase
  next => exact h ▸ .rests

/-! ## The commands -/

/-- What a command can do, said once. -/
theorem exec_ends (c : Instr) (h : exec c s = .next t) : Ends s t := by
  cases c with
  | scanState f =>
    refine performFrame_ends ?_ h
    split
    · exact .refl
    · exact takeScanState_acts s _
  | scanChange f =>
    refine performFrame_ends ?_ h
    split
    · exact .refl
    · exact takeScanChange_acts s _
  | unitStatus f => exact performFrame_ends (takeUnitStatus_acts s f.body) h
  | timeMark f => exact performFrame_ends (takeTimeMark_acts s f.body) h
  | otherFrame p f =>
    have hnext : (if s.noBlockActs f then performFrame s p f id else .next s) = .next t := h
    split at hnext
    next => exact performFrame_ends .refl hnext
    next => exact eq_of_next hnext ▸ .rests
  | ack c => exact performConsole_ends (fun _ => onWindows_acts s c 1 fun w s => .ackWindow w) h
  | reset c => exact performConsole_ends (fun _ => onWindows_acts s c 2 fun w s => .resetWindow w) h
  | silence c => exact performConsole_ends (fun _ => .single .silence) h
  | lampTestStart c => exact performConsole_ends (act := State.startLampTest) (fun _ => .single (.sensing _ rfl)) h
  | lampTestStop c => exact performConsole_ends (fun _ => stopLampTest_acts s) h
  | select c =>
    refine performConsole_ends (fun htaken => takeSelect_acts ?_) h
    exact of_decide_eq_true (Bool.and_eq_true_iff.mp htaken).1
  | execute c => exact performConsole_ends (fun _ => takeExecute_acts s c) h
  | cancel c => exact performConsole_ends (fun _ => takeCancel_acts s c) h
  | read r => exact performRequest_ends (fun u => judgeRead_sound u r.args) h
  | readNext r => exact performRequest_ends (fun u => noArgs_sound r.args (judgeReadNext_sound u)) h
  | writePanel r =>
    exact performRequest_ends (fun u => judgeWrite_sound fun _ i p _ _ =>
      written_sound (t := .panel) (.single (.writePanel p)) i.isLt) h
  | writeSource r =>
    exact performRequest_ends (fun u => judgeWrite_sound fun _ i e hparse _ =>
      judgeSource_sound fun x hx => parseSource_inRange (hx ▸ hparse)) h
  | writePoint r =>
    exact performRequest_ends (fun u => judgeWrite_sound fun _ i x hparse hflight =>
      judgePoint_sound (parsePoint_service hparse) hflight) h
  | writeWindow r =>
    exact performRequest_ends (fun u => judgeWrite_sound fun _ w x _ _ =>
      written_sound (t := .window) (.single (.writeWindow w x)) w.isLt) h
  | writePalette r =>
    exact performRequest_ends (fun u => judgeWrite_sound fun _ i x _ _ =>
      written_sound (t := .palette) (writeColour_acts u i x) i.isLt) h
  | writeGroup r =>
    exact performRequest_ends (fun u => judgeWrite_sound fun _ g x _ _ =>
      written_sound (t := .group) (.single (.writeGroup g x)) g.isLt) h
  | writeTrip r =>
    exact performRequest_ends (fun u => judgeWrite_sound fun _ c x _ hflight => judgeTrip_sound c x hflight) h
  | writeLampMask r =>
    exact performRequest_ends (fun u => judgeWrite_sound fun _ w m _ _ =>
      written_sound (t := .lampMask) (writeLampMask_acts u w m) w.isLt) h
  | writeReadOnlyTable r =>
    change execWriteReadOnlyTable r s = .next t at h
    unfold execWriteReadOnlyTable at h
    split at h
    next => exact eq_of_next h ▸ .rests
    next => exact performRequest_ends (fun u => refuse_sound u _) h
  | serviceOut r => exact performRequest_ends (fun u => judgeService_sound u r.args) h
  | serviceIn r => exact performRequest_ends (fun u => judgeService_sound u r.args) h
  | lockBlock r => exact performRequest_ends (fun u => judgeLock_sound u .locked r.args) h
  | unlockBlock r => exact performRequest_ends (fun u => judgeLock_sound u .unlocked r.args) h
  | lockAll r => exact performRequest_ends (fun u => noArgs_sound r.args (judgeLockAll_sound u .locked)) h
  | unlockAll r => exact performRequest_ends (fun u => noArgs_sound r.args (judgeLockAll_sound u .unlocked)) h
  | protect r => exact performRequest_ends (fun u => judgeProtect_sound u r.args) h
  | freezeTrip r => exact performRequest_ends (fun u => noArgs_sound r.args (judgeFreeze_sound u)) h
  | store r => exact performRequest_ends (fun u => noArgs_sound r.args (judgeStore_sound u)) h
  | clearHealth r => exact performRequest_ends (fun u => noArgs_sound r.args (done_sound (.single .clearHealth))) h
  | clearRefusal r =>
    exact performRequest_ends (judge := fun s => noArgs s r.args (done s.clearRefusal))
      (fun u => noArgs_sound r.args (done_sound (management_acts _ rfl id))) h
  | setMode r => exact performRequest_ends (fun u => judgeSetMode_sound u r.args) h
  | status r => exact performRequest_ends (fun u => noArgs_sound r.args (answer_sound .refl _)) h
  | resetKey r => exact performRequest_ends (fun u => judgeKey_sound u r.args) h
  | badRequestCode p src body =>
    change execBadRequestCode p src body s = .next t at h
    unfold execBadRequestCode at h
    split at h
    next => exact eq_of_next h ▸ .rests
    next => exact performRequest_ends (fun u => refuse_sound u _) h
  | crcFailure p => exact countFailure_ends .crc h
  | lengthFailure p => exact countFailure_ends .length h
  | stallFailure p => exact countFailure_ends .stall h
  | lineSignallingFound p => exact perform_ends (fun _ => portTrains_moves s p) h
  | portUp p => exact perform_ends (fun _ => portGoesUp_moves s p) h
  | portDown p =>
    refine perform_ends (f := fun s => if (s.port p).status = .down then s else s.portGoesDown p) (fun _ => ?_) h
    split
    · exact .refl
    · exact portGoesDown_moves s p
  | transitFrameSent p => exact perform_ends (f := fun s => s.transitSent p) (fun _ => transitSent_moves s p) h
  | mgmtRspSent p => exact perform_ends (f := fun s => s.responseSent p) (fun _ => responseSent_moves s p) h
  | panelReportSent => exact perform_ends (fun _ => reportSent_moves s) h
  | transmitterFree p => exact perform_ends (f := fun s => s.gapPassed p) (fun _ => gapPassed_moves s p) h
  | debouncedReading k x => exact perform_ends (f := fun s => s.takeReading k x) (fun _ => (takeReading_acts s k x).moves) h
  | freshnessTimerExpiry e =>
    refine perform_ends (fun _ => ?_) h
    split
    · exact (freshnessExpires_acts s e).moves
    · exact .refl
  | delayTimerExpiry p =>
    refine perform_ends (fun _ => ?_) h
    split
    · exact (Acts.one (.changePoint p _ takeDelayExpiry_ok)).moves
    · exact .refl
  | unitStatusTimeout =>
    refine perform_ends (fun _ => ?_) h
    split
    next hdue => exact (unitTimeout_acts hdue).moves
    next => exact .refl
  | holdTimerExpiry =>
    refine perform_ends (fun _ => ?_) h
    split
    · exact (holdExpires_acts s).moves
    · exact .refl
  | settleTimerExpiry g =>
    refine perform_ends (fun _ => ?_) h
    split
    next hdue =>
      have hrunning : s.groups[g].settle.isRunning = true := by rw [(Timer.isDue_iff _).mp hdue]; rfl
      exact (Acts.one (.freezeGroup g hrunning)).moves
    next => exact .refl
  | pulseTimerExpiry c =>
    refine perform_ends (fun _ => ?_) h
    split
    next hends => exact (Acts.one (.endPulse c ((pulseEnds_iff _).mp hends).1)).moves
    next => exact .refl
  | ageTimerExpiry => exact perform_ends (fun _ => (ageExpires_acts s).moves) h
  | lampTestExpiry =>
    refine perform_ends (fun _ => ?_) h
    split
    · exact (stopLampTest_acts s).moves
    · exact .refl
  | keyTimerExpiry =>
    refine perform_ends (fun _ => ?_) h
    split
    · exact (setProgress_acts s (Nat.zero_le 3)).moves
    · exact .refl
  | lampCheck w red green blue =>
    refine perform_ends (fun _ => ?_) h
    split
    · exact (checkLamp_acts s w red green blue).moves
    · exact .refl
  | coilCheck c ohms =>
    refine perform_ends
      (f := fun s => if s.tripOutput c then s else s.checkCoil c (coilReading ohms)) (fun _ => ?_) h
    split
    · exact .refl
    · exact (checkCoil_acts s c _).moves
  | hotBegins x =>
    refine perform_ends (fun _ => ?_) h
    split
    · exact (takeTemperature_acts s x).moves
    · exact .refl
  | hotEnds x =>
    refine perform_ends (fun _ => ?_) h
    split
    · exact (takeTemperature_acts s x).moves
    · exact .refl
  | supplyLowBegins v =>
    exact performSupply_ends (takes := fun s => !s.health.supplyLow && v < Config.supplyLowBelow) h
  | supplyLowEnds v =>
    exact performSupply_ends (takes := fun s => s.health.supplyLow && Config.supplyLowEndsAt ≤ v) h
  | storeCompleted => exact perform_ends (fun _ => completeStore_moves s) h
  | freezeTripCompleted => exact perform_ends (fun _ => completeFreeze_moves s) h
  | patternResetStart => exact patternResetStart_ends h
  | operationEnds => exact operationEnds_ends h
  | powerOnReset a b c rate => exact powerOnReset_ends h
  | endOfReset x v => exact endOfReset_ends h
  | temperatureMeasurement x => exact perform_ends (f := fun s => s.takeTemperature x) (fun _ => (takeTemperature_acts s x).moves) h
  | supplyMeasurement v => exact performSupply_ends (takes := fun _ => true) h

/-- A step is one microsecond of an idle part, or a command that ends in one of the ways of `Ends`. -/
theorem step_ends (h : step s = .next t) :
    (s.pending = [] ∧ t = s.microsecond) ∨ ∃ rest, Ends { s with pending := rest } t := by
  unfold step at h
  split at h
  next hempty => exact .inl ⟨hempty, (eq_of_next h).symm⟩
  next c rest _ => exact .inr ⟨rest, exec_ends c h⟩

end Sys2Proof.Machine
end

section
/-! What every step keeps, from what every way of ending keeps: the queue, and any predicate that does not look at the line
side. -/

namespace Sys2Proof.Machine

variable {s t : State}

/-! ## What the quiet acts leave alone -/

/-- What windows, groups, channels, coils, lamps, flags, scanners and records leave alone: everything else of the part. -/
structure Still where
  pending : List Instr
  phase : Phase
  straps : Straps
  msPhase : Nat
  flash : Nat
  tables : Tables
  nv : Nonvolatile
  points : Vector Point 256
  mode : ModeTracker
  selection : Option Selection
  field : Port
  station : Port
  management : Management

def State.still (s : State) : Still where
  pending := s.pending
  phase := s.phase
  straps := s.straps
  msPhase := s.msPhase
  flash := s.flash
  tables := { s.tables with window := Tables.default.window, group := Tables.default.group }
  nv := { s.nv with lockout := Nonvolatile.factory.lockout }
  points := s.points
  mode := s.mode
  selection := s.selection
  field := s.field
  station := s.station
  management := s.management

theorem still_of_publish (h : t.offPublish = s.offPublish) : t.still = s.still := (congrArg State.still h :)

theorem still_of_trips (h : t.offTrips = s.offTrips) : t.still = s.still := still_of_publish (offPublish_of_trips h)

theorem still_of_groups (h : t.offGroups = s.offGroups) : t.still = s.still := still_of_publish (offPublish_of_groups h)

theorem still_of_windows (h : t.offWindows = s.offWindows) : t.still = s.still := still_of_groups (offGroups_of h)

theorem still_of_health (h : t.offHealth = s.offHealth) : t.still = s.still := (congrArg State.still h :)

theorem clearAllHealth_still (s : State) : s.clearAllHealth.still = s.still :=
  (congrArg State.still (clearAllHealth_view s) :)

theorem silenceHorn_still (s : State) : s.silenceHorn.still = s.still := by
  unfold State.silenceHorn
  split <;> rfl

theorem writeWindow_still (s : State) (w : Fin 96) (r : WindowRecord) : (s.writeWindow w r).still = s.still := by
  unfold State.writeWindow
  dsimp only
  split
  · exact (still_of_windows (hornCheck_view _)).trans rfl
  · rfl

theorem writeGroup_still (s : State) (g : Fin 8) (r : GroupRecord) : (s.writeGroup g r).still = s.still := by
  unfold State.writeGroup
  dsimp only
  split
  · exact (still_of_groups (resetGroup_view _ g)).trans rfl
  · rfl

/-! ## What the other acts write of it -/

theorem changePoint_still (s : State) (p : Fin 256) (f : Point → Point) :
    (s.changePoint p f).still = (s.modPoint p f).still := still_of_publish (changePoint_view s p f)

theorem takeMode_still (s : State) (m : ModeTracker) : (s.takeMode m).still = { s with mode := m }.still :=
  still_of_publish (takeMode_view s m)

theorem writeTrip_still (s : State) (c : Fin 8) (r : TripRecord) :
    (s.writeTrip c r).still = (s.modTables fun t => { t with trip := upd t.trip c fun _ => r }).still :=
  still_of_trips (bringUp_view _ c)

/-- A point that goes out of service, before it publishes (R18). -/
def State.takenOut (s : State) (p : Fin 256) : State :=
  (s.modPoint p fun v => { v with condition := .normal, delay := .stopped, alarmStamp := none }).setService p .out

/-- The point that a return to service leaves (R19). -/
def State.pointTakenIn (s : State) (p : Fin 256) : Point :=
  let r := { s.tables.point[p] with service := .inn }
  let v := { s.points[p] with condition := .normal, delay := .stopped, alarmStamp := none }
  if v.quality ≠ .unseen && alarmRaw r v.raw then takeRawChange r { v with changeStamp := some s.clock } else v

/-- A point that returns to service, before it publishes (R19). -/
def State.takenIn (s : State) (p : Fin 256) : State := (s.setService p .inn).modPoint p fun _ => s.pointTakenIn p

theorem serviceOut_of_in {p : Fin 256} (h : s.tables.point[p].service = .inn) :
    s.serviceOut p =
      (((s.emit (.service p .out)).takenOut p).publishFeeder p ((s.emit (.service p .out)).feederActive p)
        ((s.emit (.service p .out)).takenOut p).clock).publishVotes p := by
  unfold State.serviceOut
  rw [if_neg (by rw [h]; decide)]
  rfl

theorem serviceOut_of_out {p : Fin 256} (h : s.tables.point[p].service = .out) : s.serviceOut p = s := if_pos h

theorem serviceIn_of_in {p : Fin 256} (h : s.tables.point[p].service = .inn) : s.serviceIn p = s := if_pos h

theorem setService_record (s : State) (p : Fin 256) (sv : Service) :
    (s.setService p sv).tables.point[p] = { s.tables.point[p] with service := sv } := upd_self _ _ _

theorem serviceIn_of_out {p : Fin 256} (h : s.tables.point[p].service = .out) :
    s.serviceIn p =
      (((s.emit (.service p .inn)).takenIn p).publishFeeder p false
        (((s.emit (.service p .inn)).pointTakenIn p).alarmStamp.getD (s.emit (.service p .inn)).clock)).publishVotes p := by
  unfold State.serviceIn
  rw [if_neg (by rw [h]; decide)]
  generalize s.emit (.service p .inn) = u
  dsimp only
  rw [setService_record]
  rfl

theorem emit_takenOut_still (s : State) (p : Fin 256) (b : ReportBody) :
    ((s.emit b).takenOut p).still = (s.takenOut p).still := by
  unfold State.emit
  split <;> rfl

theorem emit_takenIn_still (s : State) (p : Fin 256) (b : ReportBody) :
    ((s.emit b).takenIn p).still = (s.takenIn p).still := by
  unfold State.emit
  split <;> rfl

theorem serviceOut_still {p : Fin 256} (h : s.tables.point[p].service = .inn) :
    (s.serviceOut p).still = (s.takenOut p).still := by
  rw [serviceOut_of_in h, still_of_publish (publish_view _ _ _ _), emit_takenOut_still]

theorem serviceIn_still {p : Fin 256} (h : s.tables.point[p].service = .out) :
    (s.serviceIn p).still = (s.takenIn p).still := by
  rw [serviceIn_of_out h, still_of_publish (publish_view _ _ _ _), emit_takenIn_still]

/-! ## The records of a SCAN-CHANGE, one by one -/

/-- A relation that holds over a change of a point, a gap's doubt and a publication of votes holds over all that an accepted
SCAN-CHANGE does to the points. -/
theorem applyChanges_keeps {R : State → State → Prop} (hrefl : ∀ s, R s s) (htrans : ∀ {a b c}, R a b → R b c → R a c)
    (hchange : ∀ (s : State) (p : Fin 256) (raw : Raw) (stamp : Stamp), R s (s.changePoint p fun v =>
      takeRawChange s.tables.point[p] { v with raw := some raw, changeStamp := some stamp }))
    (hdoubt : ∀ (s : State) (p : Fin 256), R s (s.modPoint p fun v => { v with quality := v.quality.gapped }))
    (hvotes : ∀ (s : State) (p : Fin 256), R s (s.publishVotes p)) (s : State) (b : ScanChangeBody)
    (doubted : List (Fin 256)) : R s (s.applyChanges b doubted) := by
  have hrecord : ∀ (x : State × List (Fin 256)) (r : ChangeRecord), R x.1 (applyChange b x r).1 := by
    intro x r
    unfold applyChange
    split
    · exact hrefl _
    · split
      · exact hrefl _
      · split
        · exact hrefl _
        · exact hchange _ _ _ _
  have hrecords : ∀ (l : List ChangeRecord) (x : State × List (Fin 256)), R x.1 (l.foldl (applyChange b) x).1 := by
    intro l
    induction l with
    | nil => exact fun _ => hrefl _
    | cons r l ih => exact fun x => htrans (hrecord x r) (ih _)
  have hgap : R s (s.gapQualities doubted) :=
    forEach_keeps (P := R s) _ s (fun p _ u hu => htrans hu (hdoubt u p)) (hrefl s)
  exact forEach_keeps (P := R s) _ _ (fun p _ u hu => htrans hu (hvotes u p)) (htrans hgap (hrecords b.records (s.gapQualities doubted, [])))

/-! ## An accepted PANEL write, step by step -/

/-- The tracker's first move in a PANEL write: the mode source (R30). -/
def State.sourceEffects (s : State) (before : Panel) : State :=
  if before.modeSource = .set && s.tables.panel.modeSource = .snoop then (s.changeMode none).startUnitTimer
  else if before.modeSource = .snoop && s.tables.panel.modeSource = .set then
    { s with mode := { s.mode with unitTimer := .stopped } }
  else s

theorem panelModeEffects_eq (s : State) (before : Panel) :
    s.panelModeEffects before =
      if before.unitNumber = s.tables.panel.unitNumber then s.sourceEffects before
      else match s.tables.panel.modeSource with
        | .snoop =>
          ((s.sourceEffects before).takeMode { (s.sourceEffects before).mode with
            effective := none, lastKnown := none, held := none, hold := .stopped }).startUnitTimer
        | .set =>
          match (s.sourceEffects before).mode.effective with
          | some _ => s.sourceEffects before
          | none => (s.sourceEffects before).takeMode { (s.sourceEffects before).mode with lastKnown := none } := rfl

/-- A relation that holds over a tracker's new state holds over all that a PANEL write does to the tracker. -/
theorem panelModeEffects_keeps {R : State → State → Prop} (hrefl : ∀ s, R s s)
    (htrans : ∀ {a b c}, R a b → R b c → R a c) (hmode : ∀ (s : State) (m : ModeTracker), R s (s.takeMode m))
    (htimer : ∀ (s : State) (x : Timer), R s { s with mode := { s.mode with unitTimer := x } }) (s : State)
    (before : Panel) : R s (s.panelModeEffects before) := by
  have hsource : R s (s.sourceEffects before) := by
    unfold State.sourceEffects
    split
    · exact htrans (hmode s _) (htimer _ _)
    · split
      · exact htimer s _
      · exact hrefl s
  rw [panelModeEffects_eq]
  refine htrans hsource ?_
  generalize s.sourceEffects before = u
  split
  · exact hrefl u
  · split
    · exact htrans (hmode u _) (htimer _ _)
    · split
      · exact hrefl u
      · exact hmode u _

/-- The part with another health window. -/
def State.withHealthWindow (s : State) (w : Fin 96) : State :=
  s.modTables fun t => { t with panel := { t.panel with healthWindow := w } }

/-- The health feeder against the new masks, toward the old window (R137). -/
def State.maskEffects (s : State) (before : Panel) : State :=
  let u := s.withHealthWindow before.healthWindow
  (if before.healthMasks = u.tables.panel.healthMasks then u else u.evaluateFeeder).withHealthWindow
    s.tables.panel.healthWindow

/-- The masks first, and then the move of the feeder to its new window (R42, R137). -/
theorem panelHealthEffects_eq (s : State) (before : Panel) :
    s.panelHealthEffects before =
      if before.healthWindow = s.tables.panel.healthWindow || !(s.maskEffects before).health.feeder then
        s.maskEffects before
      else ((s.maskEffects before).deactivate before.healthWindow .health).activate s.tables.panel.healthWindow .health :=
  rfl

/-- A relation that holds over the health feeder's evaluation and its move holds over all that a PANEL write does to it. -/
theorem panelHealthEffects_keeps {R : State → State → Prop} (hrefl : ∀ s, R s s)
    (htrans : ∀ {a b c}, R a b → R b c → R a c) (hwindow : ∀ (s : State) (w : Fin 96), R s (s.withHealthWindow w))
    (hfeeder : ∀ s : State, R s s.evaluateFeeder)
    (hmoved : ∀ (s : State) (v w : Fin 96), R s ((s.deactivate v .health).activate w .health)) (s : State)
    (before : Panel) : R s (s.panelHealthEffects before) := by
  have hmasks : R s (s.maskEffects before) := by
    refine htrans (hwindow s before.healthWindow) (htrans ?_ (hwindow _ s.tables.panel.healthWindow))
    split
    · exact hrefl _
    · exact hfeeder _
  rw [panelHealthEffects_eq]
  split
  · exact hmasks
  · exact htrans hmasks (hmoved _ _ _)

/-- A relation that holds over each part of a PANEL write holds over the whole. -/
theorem writePanel_keeps {R : State → State → Prop} (hrefl : ∀ s, R s s) (htrans : ∀ {a b c}, R a b → R b c → R a c)
    (hpanel : ∀ (s : State) (p : Panel), R s (s.modTables fun t => { t with panel := p }))
    (hmode : ∀ (s : State) (m : ModeTracker), R s (s.takeMode m))
    (htimer : ∀ (s : State) (x : Timer), R s { s with mode := { s.mode with unitTimer := x } })
    (hfeeder : ∀ s : State, R s s.evaluateFeeder)
    (hmoved : ∀ (s : State) (v w : Fin 96), R s ((s.deactivate v .health).activate w .health)) (s : State) (p : Panel) :
    R s (s.writePanel p) :=
  htrans (hpanel s p) (htrans (panelModeEffects_keeps hrefl htrans hmode htimer _ _)
    (panelHealthEffects_keeps hrefl htrans (fun s w => hpanel s { s.tables.panel with healthWindow := w }) hfeeder hmoved
      _ _))

/-! ## The acts that are not quiet -/

/-- An act that writes more than the quiet ones do, with what it writes. -/
inductive Act.Main (s : State) : State → Prop
  | select {t : State} (x : Option Selection) (hx : ∀ y, x = some y → y.console.toNat ≤ 15 ∧ y.age.isRunning = true)
      (ht : t.still = { s with selection := x }.still) : Main s t
  | writeTrip {t : State} (c : Fin 8) (r : TripRecord) (hthawed : s.nv.frozen = false)
      (hflight : s.management.flight = none)
      (ht : t.still = (s.modTables fun t => { t with trip := upd t.trip c fun _ => r }).still) : Main s t
  | modPoint {t : State} (p : Fin 256) (f : Point → Point)
      (hf : s.points[p].ok s.tables.point[p].service → (f s.points[p]).ok s.tables.point[p].service)
      (ht : t.still = (s.modPoint p f).still) : Main s t
  | writePoint {t : State} (p : Fin 256) (r : PointRecord) (hout : s.tables.point[p].service = .out)
      (hr : r.service = .out) (hvotes : s.nv.frozen = true → r.votes = s.tables.point[p].votes)
      (hflight : s.management.flight = none)
      (ht : t.still = (s.modTables fun t => { t with point := upd t.point p fun _ => r }).still) : Main s t
  | serviceOut {t : State} (p : Fin 256) (ht : t.still = (s.takenOut p).still) : Main s t
  | serviceIn {t : State} (p : Fin 256) (ht : t.still = (s.takenIn p).still) : Main s t
  | mode {t : State} (m : ModeTracker) (hm : s.modeOk → { s with mode := m }.modeOk)
      (ht : t.still = { s with mode := m }.still) : Main s t
  | applyChanges (b : ScanChangeBody) (doubted : List (Fin 256)) : Main s (s.applyChanges b doubted)
  | writePanel (p : Panel) : Main s (s.writePanel p)
  | settings (scheme : Scheme) (level : Nat) (direction : Direction) (palette : Vector Colour 8)
      (lampMask : Vector Bool 96) (source : Vector (Option SourceEntry) 24)
      (hsource : s.tables.sourceOk → { s.tables with source := source }.sourceOk) :
      Main s { s with tables := { s.tables with
        panel := { s.tables.panel with scheme := scheme, level := level, direction := direction }
        palette := palette, lampMask := lampMask, source := source } }
  | management (m : Management) (hflight : m.flight = s.management.flight)
      (hm : s.managementOk → { s with management := m }.managementOk) : Main s { s with management := m }
  | storage (nv : Nonvolatile) (f : Option Flight) (hlockout : nv.lockout = s.nv.lockout)
      (hok : s.configurationOk → ({ s with nv := nv }.setFlight f).configurationOk) :
      Main s ({ s with nv := nv }.setFlight f)

/-- An act is quiet or one of the main ones. -/
theorem Act.quiet_or_main (h : Act s t) : t.still = s.still ∨ Act.Main s t := by
  cases h with
  | emit b => exact .inl (still_of_windows (emit_view s b))
  | sensing t ht => exact .inl (by rw [ht]; rfl)
  | ackWindow w => exact .inl (still_of_windows (ackWindow_view s w))
  | resetWindow w => exact .inl (still_of_windows (resetWindow_view s w))
  | silence => exact .inl (silenceHorn_still s)
  | writeWindow w r => exact .inl (writeWindow_still s w r)
  | resetGroup g => exact .inl (still_of_groups (resetGroup_view s g))
  | freezeGroup g => exact .inl (still_of_groups (freezeGroup_view s g))
  | writeGroup g r => exact .inl (writeGroup_still s g r)
  | select x hx => exact .inr (.select x hx rfl)
  | acceptReset c => exact .inl (still_of_trips (acceptReset_view s c))
  | endPulse c => exact .inl (still_of_trips (endPulse_view s c))
  | writeTrip c r hthawed hflight => exact .inr (.writeTrip c r hthawed hflight (writeTrip_still s c r))
  | changePoint p f hf => exact .inr (.modPoint p f hf (changePoint_still s p f))
  | remapPoint p f hout hf => exact .inr (.modPoint p f (hout ▸ hf) rfl)
  | writePoint p r hout hr hvotes hflight => exact .inr (.writePoint p r hout hr hvotes hflight rfl)
  | serviceOut p =>
    cases hsv : s.tables.point[p].service with
    | out => exact .inl (by rw [serviceOut_of_out hsv])
    | inn => exact .inr (.serviceOut p (serviceOut_still hsv))
  | serviceIn p =>
    cases hsv : s.tables.point[p].service with
    | inn => exact .inl (by rw [serviceIn_of_in hsv])
    | out => exact .inr (.serviceIn p (serviceIn_still hsv))
  | applyChanges b doubted => exact .inr (.applyChanges b doubted)
  | takeMode m hm => exact .inr (.mode m hm (takeMode_still s m))
  | unitTimer x hx =>
    refine .inr (.mode _ (fun hok => ?_) rfl)
    obtain ⟨hheld, hknown, hnone, hset⟩ := hok
    exact ⟨hheld, hknown, hnone, fun h => hx ⟨hheld, hknown, hnone, hset⟩ h⟩
  | writePanel p => exact .inr (.writePanel p)
  | settings scheme level direction palette lampMask source hsource =>
    exact .inr (.settings scheme level direction palette lampMask source hsource)
  | setFlag n => exact .inl (still_of_health (setFlag_view s n))
  | clearHealth => exact .inl (clearAllHealth_still s)
  | management m hflight hm => exact .inr (.management m hflight hm)
  | storage nv f hlockout hok => exact .inr (.storage nv f hlockout hok)

/-! ## What no act touches -/

/-- Queue, phase, straps and ports. -/
def State.core (s : State) : List Instr × Phase × Straps × Port × Port := (s.pending, s.phase, s.straps, s.field, s.station)

theorem core_of_still (h : t.still = s.still) : t.core = s.core :=
  congrArg (fun x : Still => (x.pending, x.phase, x.straps, x.field, x.station)) h

theorem applyChanges_core (s : State) (b : ScanChangeBody) (doubted : List (Fin 256)) :
    (s.applyChanges b doubted).core = s.core :=
  applyChanges_keeps (R := fun s t => t.core = s.core) (fun _ => rfl) (fun h h' => h'.trans h)
    (fun s p _ _ => (core_of_still (changePoint_still s p _)).trans rfl) (fun _ _ => rfl)
    (fun s p => core_of_still (still_of_trips (publishVotes_view s p))) s b doubted

theorem writePanel_core (s : State) (p : Panel) : (s.writePanel p).core = s.core :=
  writePanel_keeps (R := fun s t => t.core = s.core) (fun _ => rfl) (fun h h' => h'.trans h) (fun _ _ => rfl)
    (fun s m => (core_of_still (takeMode_still s m)).trans rfl) (fun _ _ => rfl)
    (fun s => core_of_still (still_of_health (evaluateFeeder_view s)))
    (fun s v w => core_of_still (still_of_windows ((activate_view _ w .health).trans (deactivate_view s v .health)))) s p

/-- No act touches queue, phase, straps or ports. -/
theorem Act.core_eq (h : Act s t) : t.core = s.core := by
  rcases h.quiet_or_main with hstill | hmain
  · exact core_of_still hstill
  cases hmain with
  | select _ _ ht => exact (core_of_still ht).trans rfl
  | writeTrip _ _ _ _ ht => exact (core_of_still ht).trans rfl
  | modPoint _ _ _ ht => exact (core_of_still ht).trans rfl
  | writePoint _ _ _ _ _ _ ht => exact (core_of_still ht).trans rfl
  | serviceOut _ ht => exact (core_of_still ht).trans rfl
  | serviceIn _ ht => exact (core_of_still ht).trans rfl
  | mode _ _ ht => exact (core_of_still ht).trans rfl
  | applyChanges b doubted => exact applyChanges_core s b doubted
  | writePanel p => exact writePanel_core s p
  | settings => rfl
  | management => rfl
  | storage => rfl

theorem Acts.core_eq (h : Acts s t) : t.core = s.core := by
  induction h with
  | refl => rfl
  | tail _ hact ih => exact hact.core_eq.trans ih

theorem Acts.phase_eq (h : Acts s t) : t.phase = s.phase := congrArg (fun x => x.2.1) h.core_eq

theorem Acts.port_eq (h : Acts s t) (p : PortId) : t.port p = s.port p := by
  cases p
  · exact congrArg (fun x => x.2.2.2.1) h.core_eq
  · exact congrArg (fun x => x.2.2.2.2) h.core_eq

/-! ## Predicates that do not look at the line side -/

/-- Nothing changes but queue, draws, ports and the Report Queue. -/
abbrev State.sameButLink (s t : State) : Prop :=
  t = { s with
    pending := t.pending, freeDraws := t.freeDraws, field := t.field, station := t.station, reports := t.reports, lost := t.lost }

theorem modPort_sameButLink (s : State) (p : PortId) (f : Port → Port) : s.sameButLink (s.modPort p f) := by
  cases p <;> rfl

theorem LineMove.sameButLink (h : LineMove s t) : s.sameButLink t := by
  cases h with
  | reportSent => rfl
  | answer => rfl
  | _ => exact modPort_sameButLink s _ _

/-- A predicate that no change of the line side, no act of a running part, no loss of supply and no reset breaks. -/
structure Keeps (P : State → Prop) : Prop where
  link : ∀ {s t : State}, s.sameButLink t → P s → P t
  act : ∀ {s t : State}, s.phase = .running → Act s t → P s → P t
  idle : ∀ {s : State}, s.phase = .running → P s → P s.microsecond
  ends : ∀ {s : State}, P s → P s.endOperation
  resets : ∀ {s : State} (straps : Straps) (kind : ResetKind), P s → P ({ s with straps := straps }.takeReset kind)

/-- As `Keeps`, and no end of a reset breaks it. -/
structure Kept (P : State → Prop) : Prop extends Keeps P where
  comesUp : ∀ {s : State} (kind : ResetKind) (celsius : Int) (tenths : Nat), s.phase = .inReset kind → P s →
    P (s.finishReset kind celsius tenths)

/-- The Management Unit behind a judgement: the key progress, the noted refusal and a pattern reset that becomes pending. -/
theorem answered_acts (j : Judgement) (a : Asked) (hprogress : j.progress ≤ 3) :
    let u := (j.state.setProgress j.progress).noteResult a j.result
    Acts j.state (if j.fourth then u.pendReset else u) := by
  have hnote : ∀ u : State, Acts u (u.noteResult a j.result) := fun u => by
    unfold State.noteResult
    split
    · exact .refl
    · exact .refl
    · exact noteRefusal_acts u _
  have hnoted : Acts j.state ((j.state.setProgress j.progress).noteResult a j.result) :=
    (setProgress_acts _ hprogress).trans (hnote _)
  dsimp only
  split
  · exact hnoted.trans (management_acts _ rfl id)
  · exact hnoted

namespace Keeps

variable {P : State → Prop}

theorem acts (hk : Keeps P) (hrunning : s.phase = .running) (h : Acts s t) (hs : P s) : P t := by
  induction h with
  | refl => exact hs
  | tail hrest hact ih => exact hk.act ((Acts.phase_eq hrest).trans hrunning) hact ih

theorem moves (hk : Keeps P) (hrunning : s.phase = .running) (h : Moves s t) (hs : P s) : P t := by
  have hboth : t.phase = .running ∧ P t := by
    induction h with
    | refl => exact ⟨hrunning, hs⟩
    | tail _ hmove ih =>
      obtain ⟨hphase, hP⟩ := ih
      rcases hmove with hact | hline
      · exact ⟨(Acts.one hact).phase_eq.trans hphase, hk.act hphase hact hP⟩
      · exact ⟨(congrArg State.phase hline.sameButLink).trans hphase, hk.link hline.sameButLink hP⟩
  exact hboth.2

theorem request (hk : Keeps P) (hrunning : s.phase = .running) {r : Request} {a : Asked} {judge : State → Judgement}
    (hjudge : ∀ u, (judge u).Sound u) (hs : P s) : P (s.takeRequest r.port r.id r.src a judge) := by
  unfold State.takeRequest
  split
  · exact hk.link (modPort_sameButLink _ _ _) hs
  · have hslot : s.sameButLink (s.reserveSlot r.port r.id r.src) := modPort_sameButLink _ _ _
    have hphase : (s.reserveSlot r.port r.id r.src).phase = .running := (congrArg State.phase hslot).trans hrunning
    obtain ⟨hacts, hprogress⟩ := hjudge (s.reserveSlot r.port r.id r.src)
    dsimp only
    generalize judge (s.reserveSlot r.port r.id r.src) = j at hacts hprogress
    refine hk.link ?_ (hk.acts hphase (hacts.trans (answered_acts j a hprogress)) (hk.link hslot hs))
    rw [fillNewest_view]

/-- What every way of ending keeps, every step keeps. -/
theorem step (hk : Keeps P) (hs : P s)
    (hup : ∀ (rest : List Instr) (kind : ResetKind) (celsius : Int) (tenths : Nat), s.phase = .inReset kind →
      P ({ s with pending := rest }.finishReset kind celsius tenths)) (h : step s = .next t) : P t := by
  rcases step_ends h with ⟨_, rfl⟩ | ⟨rest, hends⟩
  · by_cases hrunning : s.phase = .running
    · exact hk.idle hrunning hs
    · rwa [State.microsecond, if_neg hrunning]
  · have hs : P { s with pending := rest } := hk.link rfl hs
    have hup := hup rest
    generalize hu : ({ s with pending := rest } : State) = u at hs hends hup
    cases hends with
    | rests => exact hs
    | counts p f => exact hk.link (modPort_sameButLink _ p f) hs
    | event v hrunning hv => exact hk.link (settle_eq u v) (hk.moves hrunning hv hs)
    | frame p f act hreceives hact =>
      refine hk.link (s := act u) ?_ (hk.acts (receives_running hreceives) hact hs)
      rw [passFrame_view]
    | request r a judge hreceives hjudge =>
      exact hk.link (settle_eq u _) (hk.request (receives_running hreceives) hjudge hs)
    | ends => exact hk.ends hs
    | resets kind straps => exact hk.resets straps kind hs
    | comesUp kind celsius tenths hphase => exact hup kind celsius tenths (by rw [← hphase, ← hu])

end Keeps

theorem Kept.step {P : State → Prop} (hk : Kept P) (hs : P s) (h : Machine.step s = .next t) : P t :=
  hk.toKeeps.step hs (fun _ kind celsius tenths hphase => hk.comesUp kind celsius tenths hphase (hk.link rfl hs)) h

end Sys2Proof.Machine
end

section
/-! Settles O1, O2, O3 and O4: one step, the commands' answers, the reset values, and the part outside operation. -/

namespace Sys2Proof.Machine

variable {s t : State}

/-! ## The queue -/

theorem LineMove.pending_eq (h : LineMove s t) : t.pending = s.pending := by
  cases h with
  | reportSent => rfl
  | answer => rfl
  | _ => exact modPort_pending s _ _

theorem LineMove.phase_eq (h : LineMove s t) : t.phase = s.phase := (congrArg State.phase h.sameButLink :)

theorem Moves.phase_eq (h : Moves s t) : t.phase = s.phase := by
  induction h with
  | refl => rfl
  | tail _ hmove ih => exact (hmove.elim (fun h => congrArg (fun x => x.2.1) h.core_eq) LineMove.phase_eq).trans ih

theorem Moves.pending_eq (h : Moves s t) : t.pending = s.pending := by
  induction h with
  | refl => rfl
  | tail _ hmove ih => exact (hmove.elim (fun h => congrArg Prod.fst h.core_eq) LineMove.pending_eq).trans ih

theorem takeRequest_pending_phase (s : State) (r : Request) (a : Asked) {judge : State → Judgement}
    (hjudge : ∀ u, (judge u).Sound u) :
    (s.takeRequest r.port r.id r.src a judge).pending = s.pending ∧
      (s.takeRequest r.port r.id r.src a judge).phase = s.phase := by
  unfold State.takeRequest
  split
  · exact ⟨modPort_pending s _ _, modPort_phase s _ _⟩
  · obtain ⟨hacts, hprogress⟩ := hjudge (s.reserveSlot r.port r.id r.src)
    dsimp only
    generalize judge (s.reserveSlot r.port r.id r.src) = j at hacts hprogress
    have hkept := Acts.core_eq (hacts.trans (answered_acts j a hprogress))
    rw [fillNewest_view]
    exact ⟨(congrArg Prod.fst hkept).trans (modPort_pending s _ _),
      (congrArg (fun x => x.2.1) hkept).trans (modPort_phase s _ _)⟩

/-! ## The end of a reset, step by step (R23, R38, R61, R140, R187) -/

/-- The part as it begins to run: the first readings, and the unit-status timer of a snooping tracker. -/
def State.begun (s : State) (celsius : Int) (tenths : Nat) : State :=
  let s := { s with
    phase := .running
    health := { s.health with
      celsius, tenths, hot := decide (Config.hotAbove < celsius), supplyLow := decide (tenths < Config.supplyLowBelow) } }
  match s.tables.panel.modeSource with
  | .snoop => s.startUnitTimer
  | .set => s

/-- The IN points publish their votes. -/
def State.votesComeUp (s : State) : State :=
  forEach (ascending 256) (fun p s => if s.tables.point[p].service = .inn then s.publishVotes p else s) s

/-- The part before its start-up activations: its votes published and its flags set. -/
def State.flagged (s : State) (kind : ResetKind) (celsius : Int) (tenths : Nat) : State :=
  (s.begun celsius tenths).votesComeUp.flagsComeUp kind

/-- The end of a reset, with the two orders of the start-up activations. -/
theorem finishReset_eq (s : State) (kind : ResetKind) (celsius : Int) (tenths : Nat) :
    s.finishReset kind celsius tenths =
      let healthLast := (s.flagged kind celsius tenths).tripsComeUp.evaluateFeeder
      let healthFirst := (s.flagged kind celsius tenths).evaluateFeeder.tripsComeUp
      if healthLast.reports = healthFirst.reports then healthLast
      else
        let draws := (s.flagged kind celsius tenths).freeDraws
        { (if Config.channelsFirst draws then healthLast else healthFirst) with freeDraws := draws + 1 } := rfl

theorem votesComeUp_view (s : State) : s.votesComeUp.offTrips = s.offTrips :=
  forEach_eq (m := State.offTrips) _ _ fun p _ s => by
    split
    · exact publishVotes_view s p
    · rfl

theorem flagsComeUp_view (s : State) (kind : ResetKind) : (s.flagsComeUp kind).offHealth = s.offHealth :=
  forEach_eq (m := State.offHealth) _ _ fun n _ s => raiseFlag_view s n

theorem tripsComeUp_view (s : State) : s.tripsComeUp.offWindows = s.offWindows :=
  forEach_eq (m := State.offWindows) _ _ fun c _ s => by
    split
    · exact activateAt_view s _ _
    · rfl

/-- Everything but what the votes, the flags and the start-up activations of a reset's end move. -/
def State.offComeUp (s : State) : State := { s.offTrips with health := State.reset.health }

theorem offComeUp_of_trips (h : t.offTrips = s.offTrips) : t.offComeUp = s.offComeUp :=
  congrArg (fun x : State => { x with health := State.reset.health }) h

theorem offComeUp_of_health (h : t.offHealth = s.offHealth) : t.offComeUp = s.offComeUp :=
  congrArg State.offTrips h

theorem flagged_view (s : State) (kind : ResetKind) (celsius : Int) (tenths : Nat) :
    (s.flagged kind celsius tenths).offComeUp = (s.begun celsius tenths).offComeUp :=
  (offComeUp_of_health (flagsComeUp_view _ kind)).trans (offComeUp_of_trips (votesComeUp_view _))

theorem tripsComeUp_offComeUp (s : State) : s.tripsComeUp.offComeUp = s.offComeUp :=
  offComeUp_of_trips (offTrips_of (tripsComeUp_view s))

theorem evaluateFeeder_offComeUp (s : State) : s.evaluateFeeder.offComeUp = s.offComeUp :=
  offComeUp_of_health (evaluateFeeder_view s)

/-- The end of a reset is one order of the start-up activations or the other, but for the draw counter. -/
theorem finishReset_cases (s : State) (kind : ResetKind) (celsius : Int) (tenths : Nat) :
    ∃ u : State,
      (u = (s.flagged kind celsius tenths).tripsComeUp.evaluateFeeder ∨
        u = (s.flagged kind celsius tenths).evaluateFeeder.tripsComeUp) ∧
      s.finishReset kind celsius tenths = { u with freeDraws := (s.finishReset kind celsius tenths).freeDraws } := by
  rw [finishReset_eq]
  dsimp only
  split
  · exact ⟨_, .inl rfl, rfl⟩
  · split
    · exact ⟨_, .inl rfl, rfl⟩
    · exact ⟨_, .inr rfl, rfl⟩

theorem startUp_view {u : State} {kind : ResetKind} {celsius : Int} {tenths : Nat}
    (hu : u = (s.flagged kind celsius tenths).tripsComeUp.evaluateFeeder ∨
      u = (s.flagged kind celsius tenths).evaluateFeeder.tripsComeUp) :
    u.offComeUp = (s.begun celsius tenths).offComeUp := by
  rcases hu with h | h
  · rw [h, evaluateFeeder_offComeUp, tripsComeUp_offComeUp, flagged_view]
  · rw [h, tripsComeUp_offComeUp, evaluateFeeder_offComeUp, flagged_view]

theorem still_of_comeUp (h : t.offComeUp = s.offComeUp) : t.still = s.still := by
  have shown : ∀ u : State, u.offComeUp.still = u.still := fun u => by unfold State.still State.offComeUp; rfl
  rw [← shown t, h, shown]

theorem begun_still (s : State) (celsius : Int) (tenths : Nat) :
    (s.begun celsius tenths).still =
      { s with
        phase := .running
        mode := match s.tables.panel.modeSource with
          | .snoop => { s.mode with unitTimer := .running (s.tables.panel.unitTimeoutS * 1000) }
          | .set => s.mode }.still := by
  unfold State.begun
  dsimp only
  split <;> rfl

theorem finishReset_still (s : State) (kind : ResetKind) (celsius : Int) (tenths : Nat) :
    (s.finishReset kind celsius tenths).still = (s.begun celsius tenths).still := by
  obtain ⟨u, hu, heq⟩ := finishReset_cases s kind celsius tenths
  have hdraws : (s.finishReset kind celsius tenths).still = u.still := by rw [heq]; rfl
  rw [hdraws, still_of_comeUp (startUp_view hu)]

theorem finishReset_core (s : State) (kind : ResetKind) (celsius : Int) (tenths : Nat) :
    (s.finishReset kind celsius tenths).core = { s with phase := .running }.core :=
  (core_of_still ((finishReset_still s kind celsius tenths).trans (begun_still s celsius tenths))).trans rfl

/-- No way of ending touches the queue. -/
theorem Ends.pending_eq (h : Ends s t) : t.pending = s.pending := by
  cases h with
  | rests => rfl
  | counts p f => exact modPort_pending s p f
  | event u _ hu => exact (congrArg State.pending (settle_eq s u)).trans hu.pending_eq
  | frame p f act _ hact => exact (congrArg State.pending (passFrame_view s p f act)).trans (congrArg Prod.fst hact.core_eq)
  | request r a judge _ hjudge =>
    exact (congrArg State.pending (settle_eq s _)).trans (takeRequest_pending_phase s r a hjudge).1
  | ends => rfl
  | resets => rfl
  | comesUp kind celsius tenths => exact congrArg Prod.fst (finishReset_core s kind celsius tenths)

theorem exec_answers (c : Instr) (s : State) : ∃ t, exec c s = .next t := by
  cases c with
  | otherFrame p f =>
    change ∃ t, execOtherFrame p f s = .next t
    unfold execOtherFrame
    split <;> exact ⟨_, rfl⟩
  | writeReadOnlyTable r =>
    change ∃ t, execWriteReadOnlyTable r s = .next t
    unfold execWriteReadOnlyTable
    split <;> exact ⟨_, rfl⟩
  | badRequestCode p src body =>
    change ∃ t, execBadRequestCode p src body s = .next t
    unfold execBadRequestCode
    split <;> exact ⟨_, rfl⟩
  | crcFailure p => 
    change ∃ t, countFailure s p _ = .next t
    unfold countFailure
    split <;> exact ⟨_, rfl⟩
  | _ => exact ⟨_, rfl⟩

/-- Settles O2, by the ways in which a command can end. -/
theorem everyCommandAnswers : Obligations.EveryCommandAnswers := by
  unfold Obligations.EveryCommandAnswers
  intro c s
  obtain ⟨t, h⟩ := exec_answers c s
  exact ⟨t, h, (exec_ends c h).pending_eq⟩

/-! ## One step -/

/-- Settles O1, by the definition of a step and of a microsecond. -/
theorem stepRunsFrontCommand : Obligations.StepRunsFrontCommand := by
  unfold Obligations.StepRunsFrontCommand
  refine ⟨fun _ _ _ => rfl, fun s hempty => ?_, fun _ => rfl, rfl, rfl⟩
  have hstep : step s = .next s.microsecond := by unfold step; rw [hempty]
  dsimp only
  rw [hstep, State.microsecond]
  refine ⟨fun hresting => by rw [if_neg hresting], fun hrunning hearly => ?_, fun hrunning hlate => ?_⟩
  · rw [if_pos hrunning]
    exact congrArg _ (if_pos hearly)
  · rw [if_pos hrunning]
    exact congrArg _ (if_neg (Nat.not_lt.mpr hlate))

/-! ## The reset values -/

theorem reset_sourceOk : State.reset.sourceOk := by
  have hempty : ∀ i : Fin 24, Tables.default.source[i] = none := fun i => by simp [Tables.default]
  have hdefault : Tables.default.sourceOk := fun i j a b ha => absurd ha (by rw [hempty]; simp)
  exact ⟨hdefault, hdefault, fun v b h => by cases h⟩

theorem reset_pointsOk : State.reset.pointsOk := by
  intro p
  have hpoint : State.reset.points[p] = Point.atReset := by simp [State.reset]
  rw [hpoint]
  exact ⟨fun _ => rfl, by simp [Point.atReset], by simp [Point.atReset], by simp [Point.atReset, Timer.isRunning],
    fun h => absurd rfl h⟩

theorem reset_windowsOk : State.reset.windowsOk := by
  refine ⟨fun w => ?_, fun h => absurd rfl h⟩
  have hwindow : State.reset.windows[w] = { state := .quiet, feeders := [], markers := 0 } := by simp [State.reset]
  rw [hwindow]
  exact ⟨fun _ => rfl, fun h => by cases h⟩

theorem FoGroup.atReset_ok (enable : Bool) : FoGroup.atReset.ok enable :=
  ⟨⟨Nat.zero_le _, .nil, trivial⟩, ⟨fun _ => rfl, fun _ => rfl⟩, Nat.zero_le _, by simp [FoGroup.atReset, Timer.isRunning],
    fun h => (by cases h), fun _ e he => (by cases he), fun _ => rfl, fun _ => rfl⟩

theorem reset_groupsOk : State.reset.groupsOk := by
  intro g
  have hgroup : State.reset.groups[g] = FoGroup.atReset := by simp [State.reset]
  rw [hgroup]
  exact FoGroup.atReset_ok _

/-- A channel without voters whose record's permit mode is absent. -/
theorem Channel.atReset_ok {r : TripRecord} : Channel.atReset.ok r none :=
  ⟨rfl, rfl, fun _ => rfl, fun h => (by cases h), fun h => (by cases h), by simp [Channel.atReset, Timer.isRunning]⟩

theorem reset_tripsOk : State.reset.tripsOk := by
  intro c
  have hchannel : State.reset.channels[c] = Channel.atReset := by simp [State.reset]
  have hlockout : State.reset.nv.lockout[c] = false := by simp [State.reset, Nonvolatile.factory]
  rw [hchannel, hlockout]
  exact ⟨Channel.atReset_ok, fun _ => by simp [Channel.atReset]⟩

theorem reset_restOk : State.reset.restOk := by
  refine fun _ => ⟨rfl, fun h => (by cases h), fun _ => ⟨rfl, ?_⟩⟩
  ext1 c hc
  simp [State.reset, Nonvolatile.factory, channelAfterReset]

theorem Port.atReset_ok : Port.atReset.ok := by
  refine ⟨?_, ?_, ?_, ?_, ?_, ?_, ?_, ?_, ?_, ?_, ?_, ?_, ?_⟩ <;> simp [Port.atReset]

theorem reset_linkOk : State.reset.linkOk :=
  ⟨Port.atReset_ok, Port.atReset_ok, fun p h => (by cases p <;> cases h), fun n l h => by cases h⟩

/-- Settles O3, one predicate at a time. -/
theorem resetMeetsInvariants : Obligations.ResetMeetsInvariants := by
  unfold Obligations.ResetMeetsInvariants
  refine ⟨reset_restOk, reset_sourceOk, reset_pointsOk, ?mode, ?selection, ?management, reset_windowsOk, ?feeders,
    reset_groupsOk, reset_tripsOk, ?voters, ?health, reset_linkOk, ?queue, ?frozen, ?store⟩
  case mode => exact ⟨by simp [State.reset, Timer.isRunning], fun a h => (by cases h), fun _ => rfl, fun _ => rfl⟩
  case selection => exact fun x h => by cases h
  case management =>
    exact ⟨Nat.zero_le _, by simp [State.reset, Management.atReset, Timer.isRunning], Nat.zero_le _, le_refl _, by decide⟩
  case feeders => exact fun h => by cases h
  case voters => exact fun h => by cases h
  case health => exact fun h => by cases h
  case queue => exact ⟨Nat.zero_le _, Nat.zero_le _, fun h => absurd h (Nat.lt_irrefl 0), fun n l h => by cases h⟩
  case frozen => exact ⟨fun h => (by cases h), fun v h => by cases h⟩
  case store => exact fun v stage h => by cases h

/-! ## The part outside operation -/

theorem restOk_of_running (h : s.phase = .running) : s.restOk := fun hresting => absurd h hresting

/-- Every way of ending leaves the part at its reset values, or running. -/
theorem Ends.restOk (h : Ends s t) (hs : s.restOk) : t.restOk := by
  cases h with
  | rests => exact hs
  | counts p f hreceives =>
    exact restOk_of_running ((modPort_phase s p f).trans (receives_running hreceives))
  | event u hrunning hu =>
    exact restOk_of_running ((congrArg State.phase (settle_eq s u)).trans (hu.phase_eq.trans hrunning))
  | frame p f act hreceives hact =>
    refine restOk_of_running ((congrArg State.phase (passFrame_view s p f act)).trans ?_)
    exact hact.phase_eq.trans (receives_running hreceives)
  | request r a judge hreceives hjudge =>
    refine restOk_of_running ((congrArg State.phase (settle_eq s _)).trans ?_)
    exact (takeRequest_pending_phase s r a hjudge).2.trans (receives_running hreceives)
  | ends => exact endOperation_restOk s
  | resets kind straps => exact takeReset_restOk _ kind
  | comesUp kind celsius tenths => 
    exact restOk_of_running (congrArg (fun x => x.2.1) (finishReset_core s kind celsius tenths))

/-- Settles O4. -/
theorem restKept : Obligations.RestKept := by
  unfold Obligations.RestKept
  intro s t hs h
  rcases step_ends h with ⟨_, rfl⟩ | ⟨rest, hends⟩
  · by_cases hrunning : s.phase = .running
    · refine restOk_of_running ?_
      rw [← hrunning, State.microsecond, if_pos hrunning]
      dsimp only
      split <;> rfl
    · rwa [State.microsecond, if_neg hrunning]
  · refine hends.restOk fun hresting => ?_
    obtain ⟨heq, hoff, hreset⟩ := hs hresting
    exact ⟨congrArg (fun u : State => { u with pending := rest }) heq, hoff, hreset⟩

end Sys2Proof.Machine
end

section
/-! Settles O5: the stored state and the tables in force stay well formed together (R1, R2, R176, R184, R187). -/

namespace Sys2Proof.Machine

variable {s t : State}

/-! ## What the configuration looks at -/

/-- The Source Map, the frozen part of the tables, the stored state but the lockout records, and the operation in flight. -/
structure Configuration where
  source : Vector (Option SourceEntry) 24
  trip : TripArea
  image : Tables
  markValid : Bool
  tripArea : Option TripArea
  frozen : Bool
  flight : Option Flight

def State.configuration (s : State) : Configuration where
  source := s.tables.source
  trip := s.tables.tripArea
  image := s.nv.image
  markValid := s.nv.markValid
  tripArea := s.nv.tripArea
  frozen := s.nv.frozen
  flight := s.management.flight

theorem configurationOk_congr (h : t.configuration = s.configuration) (hphase : t.phase ≠ .off → s.phase ≠ .off)
    (hs : s.configurationOk) : t.configurationOk := by
  injection h with hsource htrip himage hmark harea hfrozen hflight
  obtain ⟨⟨hmap, hstored, hvalues⟩, ⟨hthawed, hfreeze⟩, hstore⟩ := hs
  refine ⟨⟨?_, ?_, ?_⟩, ⟨?_, ?_⟩, ?_⟩
  · intro i j a b
    rw [hsource]
    exact hmap i j a b
  · rwa [himage]
  · intro v b
    rw [hflight]
    exact hvalues v b
  · rw [hfrozen, harea]
    intro h
    obtain ⟨a, ha, hforce⟩ := hthawed h
    exact ⟨a, ha, fun hon => htrip.trans (hforce (hphase hon))⟩
  · intro v
    rw [hflight, hfrozen, htrip]
    exact hfreeze v
  · intro v stage
    rw [hflight, hmark]
    exact hstore v stage

/-- The values that FREEZE-TRIP writes are free while the table is thawed and nothing is in flight (R176). -/
theorem configurationOk_of_thawed (h : t.configuration = { s.configuration with trip := t.tables.tripArea })
    (hthawed : s.nv.frozen = false) (hidle : s.management.flight = none) (hs : s.configurationOk) :
    t.configurationOk := by
  injection h with hsource _ himage _ _ hfrozen hflight
  obtain ⟨⟨hmap, hstored, _⟩, _, _⟩ := hs
  have hnone : t.management.flight = none := hflight.trans hidle
  refine ⟨⟨?_, ?_, ?_⟩, ⟨?_, ?_⟩, ?_⟩
  · intro i j a b
    rw [hsource]
    exact hmap i j a b
  · rwa [himage]
  · exact fun v b hv => by rw [hnone] at hv; cases hv
  · exact fun hset => by rw [hfrozen.trans hthawed] at hset; cases hset
  · exact fun v hv => by rw [hnone] at hv; cases hv
  · exact fun v stage hv => by rw [hnone] at hv; cases hv

theorem configuration_of_still (h : t.still = s.still) : t.configuration = s.configuration :=
  congrArg (fun x : Still =>
    { source := x.tables.source, trip := x.tables.tripArea, image := x.nv.image, markValid := x.nv.markValid,
      tripArea := x.nv.tripArea, frozen := x.nv.frozen, flight := x.management.flight : Configuration }) h

/-! ## The acts -/

/-- A change of a record that leaves its votes leaves the values that FREEZE-TRIP writes. -/
theorem votes_upd (v : Vector PointRecord 256) (p : Fin 256) {f : PointRecord → PointRecord}
    (hf : (f v[p]).votes = v[p].votes) : (upd v p f).map (·.votes) = v.map (·.votes) := by
  ext1 i hi
  have hget : (upd v p f)[i].votes = v[i].votes := by
    have h := congrArg PointRecord.votes (upd_get v p ⟨i, hi⟩ f)
    refine h.trans ?_
    split
    next heq => exact heq ▸ hf
    next => rfl
  simp only [Vector.getElem_map, hget]

theorem setService_configuration (s : State) (p : Fin 256) (sv : Service) :
    (s.setService p sv).configuration = s.configuration := by
  have hvotes := votes_upd s.tables.point p (f := fun r => { r with service := sv }) rfl
  unfold State.configuration State.setService Tables.tripArea
  simp only [hvotes]

theorem applyChanges_configuration (s : State) (b : ScanChangeBody) (doubted : List (Fin 256)) :
    (s.applyChanges b doubted).configuration = s.configuration :=
  applyChanges_keeps (R := fun s t => t.configuration = s.configuration) (fun _ => rfl) (fun h h' => h'.trans h)
    (fun s p _ _ => (configuration_of_still (changePoint_still s p _)).trans rfl) (fun _ _ => rfl)
    (fun s p => configuration_of_still (still_of_trips (publishVotes_view s p))) s b doubted

theorem writePanel_configuration (s : State) (p : Panel) : (s.writePanel p).configuration = s.configuration :=
  writePanel_keeps (R := fun s t => t.configuration = s.configuration) (fun _ => rfl) (fun h h' => h'.trans h)
    (fun _ _ => rfl) (fun s m => (configuration_of_still (takeMode_still s m)).trans rfl) (fun _ _ => rfl)
    (fun s => configuration_of_still (still_of_health (evaluateFeeder_view s)))
    (fun s v w =>
      configuration_of_still (still_of_windows ((activate_view _ w .health).trans (deactivate_view s v .health)))) s p

/-- An act keeps the stored state and the tables well formed. -/
theorem Act.configurationOk (h : Act s t) (hs : s.configurationOk) : t.configurationOk := by
  have hphase : t.phase ≠ .off → s.phase ≠ .off := by
    rw [show t.phase = s.phase from congrArg (fun x => x.2.1) h.core_eq]
    exact id
  have same : t.configuration = s.configuration → t.configurationOk := fun heq => configurationOk_congr heq hphase hs
  rcases h.quiet_or_main with hstill | hmain
  · exact same (configuration_of_still hstill)
  cases hmain with
  | select _ _ ht => exact same ((configuration_of_still ht).trans rfl)
  | writeTrip c r hthawed hflight ht =>
    refine configurationOk_of_thawed (s := s) ?_ hthawed hflight hs
    have htables : t.tables.tripArea = _ := congrArg (fun x : Still => x.tables.tripArea) ht
    rw [htables]
    exact (configuration_of_still ht).trans rfl
  | modPoint _ _ _ ht => exact same ((configuration_of_still ht).trans rfl)
  | writePoint p r _ _ hvotes hflight ht =>
    have hwritten := configuration_of_still ht
    cases hfrozen : s.nv.frozen with
    | false =>
      refine configurationOk_of_thawed (s := s) ?_ hfrozen hflight hs
      have htables : t.tables.tripArea = _ := congrArg (fun x : Still => x.tables.tripArea) ht
      rw [htables]
      exact hwritten.trans rfl
    | true =>
      have hsame := votes_upd s.tables.point p (f := fun _ => r) (hvotes hfrozen)
      refine same (hwritten.trans ?_)
      unfold State.configuration State.modTables Tables.tripArea
      simp only [hsame]
  | serviceOut p ht => exact same ((configuration_of_still ht).trans (setService_configuration _ p .out))
  | serviceIn p ht => exact same ((configuration_of_still ht).trans (setService_configuration s p .inn))
  | mode _ _ ht => exact same ((configuration_of_still ht).trans rfl)
  | applyChanges b doubted => exact same (applyChanges_configuration s b doubted)
  | writePanel p => exact same (writePanel_configuration s p)
  | settings scheme level direction palette lampMask source hsource =>
    obtain ⟨⟨hmap, hstored, hvalues⟩, hfrozen, hstore⟩ := hs
    exact ⟨⟨hsource hmap, hstored, hvalues⟩, hfrozen, hstore⟩
  | management m hflight => exact same (by unfold State.configuration; simp only [hflight])
  | storage nv f hlockout hok => exact hok hs

/-! ## Time, the loss of supply and the resets -/

theorem Flight.later_eq_store {f : Flight} {v : Tables} {stage : StoreStage} (h : f.later = .store v stage) :
    ∃ before, f = .store v before := by
  cases f with
  | freeze => cases h
  | store w b =>
    cases b <;> (injection h with hv; exact ⟨_, by rw [hv]⟩)

theorem Flight.later_eq_freeze {f : Flight} {v : TripArea} (h : f.later = .freeze v) : f = .freeze v := by
  cases f with
  | freeze => exact h
  | store w b => cases b <;> cases h

/-- The instant of a STORE's acceptance may be over; nothing else of the configuration moves with time. -/
theorem microsecond_configuration (hrunning : s.phase = .running) :
    s.microsecond.configuration = { s.configuration with flight := s.management.flight.map Flight.later } ∧
      s.microsecond.phase = s.phase := by
  rw [State.microsecond, if_pos hrunning]
  dsimp only
  split <;> exact ⟨rfl, rfl⟩

theorem microsecond_configurationOk (hrunning : s.phase = .running) (hs : s.configurationOk) :
    s.microsecond.configurationOk := by
  obtain ⟨h, hphase⟩ := microsecond_configuration hrunning
  have hsame : ({ s with phase := .running }.setFlight (s.management.flight.map Flight.later)).configurationOk := by
    obtain ⟨⟨hmap, hstored, hvalues⟩, ⟨hthawed, hfreeze⟩, hstore⟩ := hs
    refine ⟨⟨hmap, hstored, fun v b hv => ?_⟩, ⟨fun hset => ?_, fun v hv => ?_⟩, fun v stage hv => ?_⟩
    · obtain ⟨f, hf, hlater⟩ := Option.map_eq_some_iff.mp hv
      obtain ⟨before, rfl⟩ := Flight.later_eq_store hlater
      exact hvalues v before hf
    · obtain ⟨a, ha, hforce⟩ := hthawed hset
      exact ⟨a, ha, fun _ => hforce (by rw [hrunning]; decide)⟩
    · obtain ⟨f, hf, hlater⟩ := Option.map_eq_some_iff.mp hv
      exact hfreeze v (Flight.later_eq_freeze hlater ▸ hf)
    · obtain ⟨f, hf, hlater⟩ := Option.map_eq_some_iff.mp hv
      obtain ⟨before, rfl⟩ := Flight.later_eq_store hlater
      exact hstore v before hf
  exact configurationOk_congr h (fun _ => by simp [State.setFlight]) hsame

theorem Tables.default_sourceOk : Tables.default.sourceOk := reset_sourceOk.1

theorem endOperation_configurationOk (hs : s.configurationOk) : s.endOperation.configurationOk := by
  obtain ⟨⟨_, hstored, hvalues⟩, ⟨hthawed, hfreeze⟩, _⟩ := hs
  have himage : s.endOperation.nv.image.sourceOk := by
    rw [endOperation_nv]
    split
    next v b hflight =>
      split
      · exact hvalues v b hflight
      · exact hstored
    next => exact hstored
    next => exact hstored
  have harea : s.endOperation.nv.frozen = true → ∃ a, s.endOperation.nv.tripArea = some a := by
    rw [endOperation_nv]
    split
    next v b hflight =>
      intro hset
      obtain ⟨a, ha, _⟩ := hthawed (by split at hset <;> exact hset)
      exact ⟨a, by split <;> exact ha⟩
    next v hflight => exact fun hset => absurd hset (by rw [(hfreeze v hflight).1]; decide)
    next =>
      intro hset
      obtain ⟨a, ha, _⟩ := hthawed hset
      exact ⟨a, ha⟩
  refine ⟨⟨Tables.default_sourceOk, himage, fun v b h => by cases h⟩, ⟨fun hset => ?_, fun v h => by cases h⟩,
    fun v stage h => by cases h⟩
  obtain ⟨a, ha⟩ := harea hset
  exact ⟨a, ha, fun hon => absurd rfl hon⟩

/-- What a reset loads: the image where it is valid, under the frozen trip table where there is one (R187). -/
theorem loaded_source (nv : Nonvolatile) :
    nv.loaded.source = (if nv.imageValid then nv.image else Tables.default).source := by
  unfold Nonvolatile.loaded
  dsimp only
  generalize (if nv.imageValid then nv.image else Tables.default) = t
  cases nv.frozen <;> cases nv.tripArea <;> rfl

theorem loaded_tripArea {nv : Nonvolatile} {a : TripArea} (hfrozen : nv.frozen = true) (harea : nv.tripArea = some a) :
    nv.loaded.tripArea = a := by
  unfold Nonvolatile.loaded
  rw [hfrozen, harea]
  unfold Tables.tripArea
  obtain ⟨trip, votes⟩ := a
  congr 1
  ext1 i hi
  simp

theorem takeReset_configurationOk (straps : Straps) (kind : ResetKind) (hs : s.configurationOk) :
    ({ s with straps := straps }.takeReset kind).configurationOk := by
  obtain ⟨⟨_, hstored, _⟩, ⟨hthawed, _⟩, _⟩ := hs
  refine ⟨⟨?_, hstored, fun v b h => by cases h⟩, ⟨fun hset => ?_, fun v h => by cases h⟩, fun v stage h => by cases h⟩
  · have hloaded : (if s.nv.imageValid then s.nv.image else Tables.default).sourceOk := by
      split
      · exact hstored
      · exact Tables.default_sourceOk
    intro i j a b hi hj
    have hi : (if s.nv.imageValid then s.nv.image else Tables.default).source[i] = some a := loaded_source s.nv ▸ hi
    have hj : (if s.nv.imageValid then s.nv.image else Tables.default).source[j] = some b := loaded_source s.nv ▸ hj
    exact hloaded i j a b hi hj
  · obtain ⟨a, ha, _⟩ := hthawed hset
    exact ⟨a, ha, fun _ => loaded_tripArea hset ha⟩

theorem finishReset_configuration (s : State) (kind : ResetKind) (celsius : Int) (tenths : Nat) :
    (s.finishReset kind celsius tenths).configuration = s.configuration :=
  (configuration_of_still ((finishReset_still s kind celsius tenths).trans (begun_still s celsius tenths))).trans rfl

theorem configurationOk_kept : Kept State.configurationOk where
  link {s t} h hs := configurationOk_congr (by rw [h]; rfl) (fun hon => by rw [h] at hon; exact hon) hs
  act _ h hs := h.configurationOk hs
  idle hrunning hs := microsecond_configurationOk hrunning hs
  ends hs := endOperation_configurationOk hs
  resets straps kind hs := takeReset_configurationOk straps kind hs
  comesUp kind celsius tenths hphase hs :=
    configurationOk_congr (finishReset_configuration _ kind celsius tenths) (fun _ => by rw [hphase]; simp) hs

/-- Settles O5. -/
theorem configurationKept : Obligations.ConfigurationKept := by
  unfold Obligations.ConfigurationKept
  exact fun s t hs h => configurationOk_kept.step hs h

end Sys2Proof.Machine
end

section
/-! Settles O6: each point's condition, delay timer and stamps stay in step with each other (R15, R16). -/

namespace Sys2Proof.Machine

variable {s t : State}

/-! ## What the points look at -/

/-- The points and their records. -/
def State.pointSide (s : State) : Vector Point 256 × Vector PointRecord 256 := (s.points, s.tables.point)

theorem pointsOk_congr (h : t.pointSide = s.pointSide) (hs : s.pointsOk) : t.pointsOk := by
  obtain ⟨hpoints, hrecords⟩ := Prod.mk.inj h
  intro p
  rw [hpoints, hrecords]
  exact hs p

theorem pointSide_of_still (h : t.still = s.still) : t.pointSide = s.pointSide :=
  congrArg (fun x : Still => (x.points, x.tables.point)) h

/-! ## The acts -/

/-- One point moves, with its record or without, to a state that is in order under its service. -/
theorem pointsOk_of_one {p : Fin 256} (hp : t.points[p].ok t.tables.point[p].service)
    (hpoint : ∀ q, q ≠ p → t.points[q] = s.points[q])
    (hservice : ∀ q, q ≠ p → t.tables.point[q].service = s.tables.point[q].service) (hs : s.pointsOk) : t.pointsOk := by
  intro q
  by_cases h : q = p
  · subst h
    exact hp
  · rw [hpoint q h, hservice q h]
    exact hs q

theorem modPoint_pointsOk {p : Fin 256} {f : Point → Point}
    (hf : s.points[p].ok s.tables.point[p].service → (f s.points[p]).ok s.tables.point[p].service) (hs : s.pointsOk) :
    (s.modPoint p f).pointsOk := by
  refine pointsOk_of_one (s := s) (p := p) ?_ (fun q h => upd_ne _ _ (Ne.symm h)) (fun _ _ => rfl) hs
  show (upd s.points p f)[p].ok _
  rw [upd_self]
  exact hf (hs p)

theorem changePoint_pointsOk {p : Fin 256} {f : Point → Point}
    (hf : s.points[p].ok s.tables.point[p].service → (f s.points[p]).ok s.tables.point[p].service) (hs : s.pointsOk) :
    (s.changePoint p f).pointsOk :=
  pointsOk_congr (pointSide_of_still (changePoint_still s p f)) (modPoint_pointsOk hf hs)

theorem applyChanges_pointsOk (s : State) (b : ScanChangeBody) (doubted : List (Fin 256)) :
    s.pointsOk → (s.applyChanges b doubted).pointsOk :=
  applyChanges_keeps (R := fun s t => s.pointsOk → t.pointsOk) (fun _ => id) (fun h h' hs => h' (h hs))
    (fun _ _ _ _ => changePoint_pointsOk fun h => takeRawChange_ok (Point.ok_of_raw _ _ h id))
    (fun _ _ => modPoint_pointsOk fun h => Point.ok_of_quality h Quality.gapped_unseen)
    (fun s p => pointsOk_congr (pointSide_of_still (still_of_trips (publishVotes_view s p)))) s b doubted

/-- A point that is brought back to NORMAL keeps its input and change stamp alone. -/
theorem Point.ok_atNormal {service sv : Service} {v : Point} (h : v.ok service) :
    ({ v with condition := .normal, delay := .stopped, alarmStamp := none } : Point).ok sv := by
  obtain ⟨_, hstamp, _⟩ := h
  exact ⟨fun _ => rfl, hstamp, by simp, by simp [Timer.isRunning], fun h => absurd rfl h⟩

theorem Point.ok_of_stamp {service : Service} {v : Point} (stamp : Stamp) (h : v.ok service)
    (hraw : v.raw.isSome = true) : ({ v with changeStamp := some stamp } : Point).ok service := by
  obtain ⟨hrest, -, hrest'⟩ := h
  exact ⟨hrest, by simp [hraw], hrest'⟩

/-- One point takes a new service, and a state that is in order under it. -/
theorem setService_pointsOk {p : Fin 256} {sv : Service} {f : Point → Point} (hf : (f s.points[p]).ok sv)
    (hs : s.pointsOk) : ((s.modPoint p f).setService p sv).pointsOk := by
  refine pointsOk_of_one (s := s) (p := p) ?_ (fun q h => upd_ne _ _ (Ne.symm h)) (fun q h => ?_) hs
  · rw [setService_record]
    show (upd s.points p f)[p].ok sv
    rw [upd_self]
    exact hf
  · show (upd s.tables.point p _)[q].service = _
    rw [upd_ne _ _ (Ne.symm h)]

theorem takenOut_pointsOk (p : Fin 256) (hs : s.pointsOk) : (s.takenOut p).pointsOk :=
  setService_pointsOk (Point.ok_atNormal (hs p)) hs

theorem pointTakenIn_ok (p : Fin 256) (hs : s.pointsOk) : (s.pointTakenIn p).ok .inn := by
  unfold State.pointTakenIn
  dsimp only
  split
  next hraw =>
    have halarm := (Bool.and_eq_true_iff.mp hraw).2
    exact takeRawChange_ok (r := { s.tables.point[p] with service := .inn })
      (Point.ok_of_stamp _ (Point.ok_atNormal (hs p)) (alarmRaw_isSome halarm))
  next => exact Point.ok_atNormal (hs p)

theorem takenIn_pointsOk (p : Fin 256) (hs : s.pointsOk) : (s.takenIn p).pointsOk :=
  setService_pointsOk (f := fun _ => s.pointTakenIn p) (pointTakenIn_ok p hs) hs

theorem writePanel_pointSide (s : State) (p : Panel) : (s.writePanel p).pointSide = s.pointSide :=
  writePanel_keeps (R := fun s t => t.pointSide = s.pointSide) (fun _ => rfl) (fun h h' => h'.trans h)
    (fun _ _ => rfl) (fun s m => (pointSide_of_still (takeMode_still s m)).trans rfl) (fun _ _ => rfl)
    (fun s => pointSide_of_still (still_of_health (evaluateFeeder_view s)))
    (fun s v w =>
      pointSide_of_still (still_of_windows ((activate_view _ w .health).trans (deactivate_view s v .health)))) s p

/-- An act keeps the points in order. -/
theorem Act.pointsOk (h : Act s t) (hs : s.pointsOk) : t.pointsOk := by
  have same : t.pointSide = s.pointSide → t.pointsOk := fun heq => pointsOk_congr heq hs
  have written : ∀ {u : State}, t.still = u.still → u.pointsOk → t.pointsOk := fun ht hu =>
    pointsOk_congr (pointSide_of_still ht) hu
  rcases h.quiet_or_main with hstill | hmain
  · exact written hstill hs
  cases hmain with
  | select _ _ ht => exact written ht hs
  | writeTrip _ _ _ _ ht => exact written ht hs
  | modPoint p f hf ht => exact written ht (modPoint_pointsOk hf hs)
  | writePoint p r hout hr _ _ ht =>
    refine written ht (pointsOk_of_one (s := s) (p := p) ?_ (fun _ _ => rfl) (fun q h => ?_) hs)
    · show s.points[p].ok (upd s.tables.point p fun _ => r)[p].service
      rw [upd_self, hr, ← hout]
      exact hs p
    · show (upd s.tables.point p fun _ => r)[q].service = _
      rw [upd_ne _ _ (Ne.symm h)]
  | serviceOut p ht => exact written ht (takenOut_pointsOk p hs)
  | serviceIn p ht => exact written ht (takenIn_pointsOk p hs)
  | mode _ _ ht => exact written ht hs
  | applyChanges b doubted => exact applyChanges_pointsOk s b doubted hs
  | writePanel p => exact same (writePanel_pointSide s p)
  | settings => exact same rfl
  | management => exact same rfl
  | storage => exact same rfl

/-! ## Time and the resets -/

@[simp] theorem Timer.tick_isRunning (x : Timer) : x.tick.isRunning = x.isRunning := by cases x <;> rfl

theorem microsecond_pointsOk (hrunning : s.phase = .running) (hs : s.pointsOk) : s.microsecond.pointsOk := by
  rw [State.microsecond, if_pos hrunning]
  dsimp only
  split
  · exact hs
  · intro p
    obtain ⟨hrest, hstamp, halarm, hdelay, hraw⟩ := hs p
    have hpoint : (s.points.map fun p => { p with delay := p.delay.tick })[p] =
        { s.points[p] with delay := s.points[p].delay.tick } := Vector.getElem_map ..
    show ((s.points.map fun p => { p with delay := p.delay.tick })[p] : Point).ok _
    rw [hpoint]
    exact ⟨hrest, hstamp, halarm, by simpa using hdelay, hraw⟩

/-- Points at reset are in order under any service. -/
theorem pointsOk_of_reset (h : s.points = State.reset.points) : s.pointsOk := by
  intro p
  have hpoint : s.points[p] = Point.atReset := by rw [h]; simp [State.reset]
  rw [hpoint]
  exact ⟨fun _ => rfl, by simp [Point.atReset], by simp [Point.atReset], by simp [Point.atReset, Timer.isRunning],
    fun h => absurd rfl h⟩

theorem finishReset_pointSide (s : State) (kind : ResetKind) (celsius : Int) (tenths : Nat) :
    (s.finishReset kind celsius tenths).pointSide = s.pointSide :=
  (pointSide_of_still ((finishReset_still s kind celsius tenths).trans (begun_still s celsius tenths))).trans rfl

theorem pointsOk_kept : Kept State.pointsOk where
  link {s t} h hs := pointsOk_congr (by rw [h]; rfl) hs
  act _ h hs := h.pointsOk hs
  idle hrunning hs := microsecond_pointsOk hrunning hs
  ends _ := pointsOk_of_reset rfl
  resets _ _ _ := pointsOk_of_reset rfl
  comesUp kind celsius tenths _ hs := pointsOk_congr (finishReset_pointSide _ kind celsius tenths) hs

/-- Settles O6. -/
theorem pointsKept : Obligations.PointsKept := by
  unfold Obligations.PointsKept
  exact fun s t hs h => pointsOk_kept.step hs h

end Sys2Proof.Machine
end

section
/-! Settles O7: the Mode Tracker, the Selection slot and the Management Unit stay well formed (R25, R34, R110, R169,
R177). -/

namespace Sys2Proof.Machine

variable {s t : State}

/-! ## The Mode Tracker -/

theorem modeOk_congr (hmode : t.mode = s.mode) (hsource : t.tables.panel.modeSource = s.tables.panel.modeSource)
    (hs : s.modeOk) : t.modeOk := by
  unfold State.modeOk
  rw [hmode, hsource]
  exact hs

theorem trackers_of_still (h : t.still = s.still) :
    t.mode = s.mode ∧ t.tables.panel.modeSource = s.tables.panel.modeSource :=
  ⟨congrArg Still.mode h, congrArg (fun x : Still => x.tables.panel.modeSource) h⟩

theorem modeOk_of_still (h : t.still = s.still) : s.modeOk → t.modeOk :=
  modeOk_congr (trackers_of_still h).1 (trackers_of_still h).2

/-- The first three clauses of `modeOk`: hold, last known mode and held mode against the effective mode. -/
def ModeTracker.shapeOk (m : ModeTracker) : Prop :=
  (m.held.isSome ↔ m.hold.isRunning) ∧ (∀ a, m.effective = some a → m.lastKnown = some a) ∧
  (m.effective = none → m.held = none)

theorem modeOk_iff (s : State) :
    s.modeOk ↔ s.mode.shapeOk ∧ (s.tables.panel.modeSource = .set → s.mode.unitTimer = .stopped) := by
  unfold State.modeOk ModeTracker.shapeOk
  dsimp only
  tauto

theorem takeMode_panel (s : State) (m : ModeTracker) : (s.takeMode m).tables.panel = s.tables.panel :=
  congrArg (fun x : Still => x.tables.panel) (takeMode_still s m)

theorem changeMode_panel (s : State) (m : Option Mode) : (s.changeMode m).tables.panel = s.tables.panel := takeMode_panel _ _

theorem changeMode_mode (s : State) (m : Option Mode) :
    (s.changeMode m).mode = s.mode.changeTo m s.tables.panel.modeHoldMs := takeMode_mode _ _

theorem startUnitTimer_tables (s : State) : s.startUnitTimer.tables = s.tables := rfl

theorem startUnitTimer_mode (s : State) :
    s.startUnitTimer.mode = { s.mode with unitTimer := .running (s.tables.panel.unitTimeoutS * 1000) } := rfl

theorem changeTo_shapeOk {m : ModeTracker} (new : Option Mode) (holdMs : Nat) (h : m.shapeOk) :
    (m.changeTo new holdMs).shapeOk ∧ (m.changeTo new holdMs).unitTimer = m.unitTimer := by
  obtain ⟨hheld, hknown, hnone⟩ := h
  unfold ModeTracker.changeTo
  split
  next a b heff =>
    split
    next => exact ⟨⟨hheld, hknown, hnone⟩, rfl⟩
    next => split <;> simp [ModeTracker.shapeOk, Timer.isRunning]
  next heff => simp [ModeTracker.shapeOk, Timer.isRunning]
  next b heff => simp_all [ModeTracker.shapeOk]
  next heff => exact ⟨⟨hheld, hknown, hnone⟩, rfl⟩

/-- A PANEL write takes the tracker to its new mode source (R30). -/
theorem sourceEffects_modeOk {before : Panel} (hshape : s.mode.shapeOk)
    (htimer : before.modeSource = .set → s.mode.unitTimer = .stopped) : (s.sourceEffects before).modeOk := by
  rw [modeOk_iff]
  unfold State.sourceEffects
  split
  next h =>
    obtain ⟨-, hsnoop⟩ := Bool.and_eq_true_iff.mp h
    rw [startUnitTimer_mode, startUnitTimer_tables, changeMode_mode, changeMode_panel, of_decide_eq_true hsnoop]
    exact ⟨(changeTo_shapeOk none _ hshape).1, fun h => by cases h⟩
  next hno =>
    split
    next => exact ⟨hshape, fun _ => rfl⟩
    next hno' =>
      refine ⟨hshape, fun hset => htimer ?_⟩
      cases hb : before.modeSource with
      | set => rfl
      | snoop => exact absurd (by simp [hb, hset]) hno'

theorem panelModeEffects_modeOk {before : Panel} (hshape : s.mode.shapeOk)
    (htimer : before.modeSource = .set → s.mode.unitTimer = .stopped) : (s.panelModeEffects before).modeOk := by
  have hu := sourceEffects_modeOk hshape htimer
  have hpanel : (s.sourceEffects before).tables.panel = s.tables.panel := by
    unfold State.sourceEffects
    split
    · rw [startUnitTimer_tables, changeMode_panel]
    · split <;> rfl
  rw [panelModeEffects_eq, ← hpanel]
  generalize s.sourceEffects before = u at hu
  split
  · exact hu
  · rw [modeOk_iff] at hu ⊢
    obtain ⟨⟨hheld, hknown, hnone⟩, hstopped⟩ := hu
    split
    next hsource =>
      generalize hm : ({ u.mode with effective := none, lastKnown := none, held := none, hold := .stopped } : ModeTracker) = m
      rw [startUnitTimer_mode, startUnitTimer_tables, takeMode_mode, takeMode_panel, hsource, ← hm]
      exact ⟨by simp [ModeTracker.shapeOk, Timer.isRunning], fun h => by cases h⟩
    next hsource =>
      split
      next => exact ⟨⟨hheld, hknown, hnone⟩, hstopped⟩
      next heff =>
        rw [takeMode_mode, takeMode_panel]
        exact ⟨⟨hheld, fun a h => absurd (heff.symm.trans h) (by simp), hnone⟩, hstopped⟩

theorem writePanel_modeOk (p : Panel) (hs : s.modeOk) : (s.writePanel p).modeOk := by
  obtain ⟨hshape, htimer⟩ := (modeOk_iff s).mp hs
  have hmodes := panelModeEffects_modeOk (s := s.modTables fun t => { t with panel := p }) hshape htimer
  have hhealth := panelHealthEffects_keeps
    (R := fun s t => t.mode = s.mode ∧ t.tables.panel.modeSource = s.tables.panel.modeSource) (fun _ => ⟨rfl, rfl⟩)
    (fun h h' => ⟨h'.1.trans h.1, h'.2.trans h.2⟩) (fun _ _ => ⟨rfl, rfl⟩)
    (fun s => trackers_of_still (still_of_health (evaluateFeeder_view s)))
    (fun s v w => trackers_of_still (still_of_windows ((activate_view _ w .health).trans (deactivate_view s v .health))))
    ((s.modTables fun t => { t with panel := p }).panelModeEffects s.tables.panel) s.tables.panel
  exact modeOk_congr hhealth.1 hhealth.2 hmodes

/-! ## The three together -/

def State.trackersOk (s : State) : Prop := s.modeOk ∧ s.selectionOk ∧ s.managementOk

theorem trackersOk_congr (hmode : t.modeOk) (h : (t.selection, t.management) = (s.selection, s.management))
    (hs : s.trackersOk) : t.trackersOk := by
  obtain ⟨hselection, hmanagement⟩ := Prod.mk.inj h
  obtain ⟨_, hsel, hman⟩ := hs
  refine ⟨hmode, ?_, ?_⟩
  · unfold State.selectionOk
    rwa [hselection]
  · unfold State.managementOk
    rwa [hmanagement]

theorem slots_of_still (h : t.still = s.still) : (t.selection, t.management) = (s.selection, s.management) :=
  congrArg (fun x : Still => (x.selection, x.management)) h

theorem applyChanges_trackers (s : State) (b : ScanChangeBody) (doubted : List (Fin 256)) :
    (s.applyChanges b doubted).still = { s with points := (s.applyChanges b doubted).points }.still :=
  applyChanges_keeps (R := fun s t => t.still = { s with points := t.points }.still) (fun _ => rfl)
    (fun {a b c} h h' => h'.trans (congrArg (fun x : Still => { x with points := c.points }) h))
    (fun s p _ _ => (changePoint_still s p _).trans (by rw [changePoint_points]; rfl)) (fun _ _ => rfl)
    (fun s p => by
      have hpoints : (s.publishVotes p).points = s.points :=
        congrArg Still.points (still_of_trips (publishVotes_view s p))
      rw [still_of_trips (publishVotes_view s p), hpoints]) s b doubted

theorem writePanel_slots (s : State) (p : Panel) :
    ((s.writePanel p).selection, (s.writePanel p).management) = (s.selection, s.management) :=
  writePanel_keeps (R := fun s t => (t.selection, t.management) = (s.selection, s.management)) (fun _ => rfl)
    (fun h h' => h'.trans h) (fun _ _ => rfl) (fun s m => (slots_of_still (takeMode_still s m)).trans rfl)
    (fun _ _ => rfl) (fun s => slots_of_still (still_of_health (evaluateFeeder_view s)))
    (fun s v w => slots_of_still (still_of_windows ((activate_view _ w .health).trans (deactivate_view s v .health)))) s p

/-- An act keeps the trackers well formed. -/
theorem Act.trackersOk (h : Act s t) (hs : s.trackersOk) : t.trackersOk := by
  have written : ∀ {u : State}, t.still = u.still → u.trackersOk → t.trackersOk := fun ht hu =>
    trackersOk_congr (modeOk_of_still ht hu.1) (slots_of_still ht) hu
  rcases h.quiet_or_main with hstill | hmain
  · exact written hstill hs
  obtain ⟨hmode, hselection, hmanagement⟩ := hs
  have hs : s.trackersOk := ⟨hmode, hselection, hmanagement⟩
  cases hmain with
  | select x hx ht => exact written ht ⟨hmode, hx, hmanagement⟩
  | writeTrip _ _ _ _ ht => exact written ht hs
  | modPoint _ _ _ ht => exact written ht hs
  | writePoint _ _ _ _ _ _ ht => exact written ht hs
  | serviceOut _ ht => exact written ht hs
  | serviceIn _ ht => exact written ht hs
  | mode m hm ht => exact written ht ⟨hm hmode, hselection, hmanagement⟩
  | applyChanges b doubted => exact written (applyChanges_trackers s b doubted) hs
  | writePanel p => exact trackersOk_congr (writePanel_modeOk p hmode) (writePanel_slots s p) hs
  | settings => exact ⟨hmode, hselection, hmanagement⟩
  | management m hflight hm => exact ⟨hmode, hselection, hm hmanagement⟩
  | storage => exact ⟨hmode, hselection, hmanagement⟩

/-! ## Time and the resets -/

theorem Timer.tick_eq_stopped {x : Timer} (h : x = .stopped) : x.tick = .stopped := by rw [h]; rfl

theorem microsecond_trackersOk (hrunning : s.phase = .running) (hs : s.trackersOk) : s.microsecond.trackersOk := by
  rw [State.microsecond, if_pos hrunning]
  obtain ⟨⟨hheld, hknown, hnone, hset⟩, hselection, hprogress, htimer, hindex⟩ := hs
  dsimp only
  split
  · exact ⟨⟨hheld, hknown, hnone, hset⟩, hselection, hprogress, htimer, hindex⟩
  · refine ⟨⟨?_, hknown, hnone, fun h => Timer.tick_eq_stopped (hset h)⟩, fun x hx => ?_, hprogress, ?_, hindex⟩
    · show s.mode.held.isSome = true ↔ s.mode.hold.tick.isRunning = true
      rw [Timer.tick_isRunning]
      exact hheld
    · obtain ⟨y, hy, rfl⟩ := Option.map_eq_some_iff.mp hx
      obtain ⟨hconsole, hage⟩ := hselection y hy
      exact ⟨hconsole, by simpa using hage⟩
    · show s.management.keyTimer.tick.isRunning = true ↔ s.management.keyProgress ≠ 0
      rw [Timer.tick_isRunning]
      exact htimer

/-- The trackers at reset are well formed under any settings. -/
theorem trackersOk_of_reset (hmode : s.mode = State.reset.mode) (hselection : s.selection = none)
    (hmanagement : s.management = Management.atReset) : s.trackersOk := by
  refine ⟨?_, ?_, ?_⟩
  · unfold State.modeOk
    rw [hmode]
    exact ⟨by simp [State.reset, Timer.isRunning], fun a h => (by cases h), fun _ => rfl, fun _ => rfl⟩
  · intro x hx
    rw [hselection] at hx
    cases hx
  · unfold State.managementOk
    rw [hmanagement]
    exact ⟨Nat.zero_le _, by simp [Management.atReset, Timer.isRunning], Nat.zero_le _, le_refl _, by decide⟩

theorem begun_trackersOk (celsius : Int) (tenths : Nat) (hs : s.trackersOk) : (s.begun celsius tenths).trackersOk := by
  obtain ⟨⟨hheld, hknown, hnone, hset⟩, hselection, hmanagement⟩ := hs
  unfold State.begun
  dsimp only
  split
  next hsource => exact ⟨⟨hheld, hknown, hnone, fun h => by cases hsource.symm.trans h⟩, hselection, hmanagement⟩
  next => exact ⟨⟨hheld, hknown, hnone, hset⟩, hselection, hmanagement⟩

theorem trackersOk_kept : Kept State.trackersOk where
  link {s t} h hs := by rw [h]; exact hs
  act _ h hs := h.trackersOk hs
  idle hrunning hs := microsecond_trackersOk hrunning hs
  ends _ := trackersOk_of_reset rfl rfl rfl
  resets _ _ _ := trackersOk_of_reset rfl rfl rfl
  comesUp {s} kind celsius tenths _ hs := by
    have hstill := finishReset_still s kind celsius tenths
    have hbegun := begun_trackersOk celsius tenths hs
    exact trackersOk_congr (modeOk_of_still hstill hbegun.1) (slots_of_still hstill) hbegun

/-- Settles O7. -/
theorem trackersKept : Obligations.TrackersKept := by
  unfold Obligations.TrackersKept
  exact fun s t hs h => trackersOk_kept.step hs h

end Sys2Proof.Machine
end

section
/-! The acts as strokes: each act is a run of a few elementary moves of windows, groups and records, with writes between them
that leave all of these alone. -/

namespace Sys2Proof.Machine

variable {s t : State}

/-- Windows, horn, groups and reports, with the records that windows and groups go by. -/
structure Display where
  windows : Vector Window 96
  horn : Horn
  groups : Vector FoGroup 8
  reports : List Report
  lost : Nat
  windowTable : Vector WindowRecord 96
  groupTable : Vector GroupRecord 8

def State.display (s : State) : Display where
  windows := s.windows
  horn := s.horn
  groups := s.groups
  reports := s.reports
  lost := s.lost
  windowTable := s.tables.window
  groupTable := s.tables.group

/-- An elementary move of windows, horn, groups and records, or a write that leaves them alone. -/
inductive Stroke (s : State) : State → Prop
  | write (t : State) (ht : t.display = s.display) : Stroke s t
  | emit (b : ReportBody) : Stroke s (s.emit b)
  | activate (w : Fin 96) (f : Feeder) : Stroke s (s.activate w f)
  | deactivate (w : Fin 96) (f : Feeder) : Stroke s (s.deactivate w f)
  | ackWindow (w : Fin 96) : Stroke s (s.ackWindow w)
  | resetWindow (w : Fin 96) : Stroke s (s.resetWindow w)
  | silence : Stroke s s.silenceHorn
  | writeWindow (w : Fin 96) (r : WindowRecord) : Stroke s (s.writeWindow w r)
  | arrive (g : Fin 8) (p : Fin 256) (stamp : Stamp) : Stroke s (s.arrive g p stamp)
  | resetGroup (g : Fin 8) : Stroke s (s.resetGroup g)
  | freezeGroup (g : Fin 8) (hdue : s.groups[g].settle.isRunning = true) : Stroke s (s.freezeGroup g)
  | writeGroup (g : Fin 8) (r : GroupRecord) : Stroke s (s.writeGroup g r)

abbrev Strokes : State → State → Prop := Relation.ReflTransGen Stroke

theorem Strokes.one (h : Stroke s t) : Strokes s t := .single h

theorem Strokes.write (h : t.display = s.display) : Strokes s t := .single (.write t h)

/-- A write, and strokes behind it. -/
theorem strokes_behind {u : State} (hrest : Strokes u t) (h : u.display = s.display) : Strokes s t :=
  .head (.write u h) hrest

theorem forEach_strokes {α : Type} {f : α → State → State} (xs : List α) (s : State)
    (hf : ∀ x ∈ xs, ∀ s, Strokes s (f x s)) : Strokes s (forEach xs f s) :=
  forEach_keeps (P := Strokes s) xs s (fun x hx t ht => ht.trans (hf x hx t)) .refl

/-! ## Windows and groups that a record names -/

theorem activateAt_strokes (s : State) (w : Option (Fin 96)) (f : Feeder) : Strokes s (s.activateAt w f) := by
  cases w with
  | none => exact .refl
  | some w => exact .one (.activate w f)

theorem deactivateAt_strokes (s : State) (w : Option (Fin 96)) (f : Feeder) : Strokes s (s.deactivateAt w f) := by
  cases w with
  | none => exact .refl
  | some w => exact .one (.deactivate w f)

theorem arriveAt_strokes (s : State) (g : Option (Fin 8)) (p : Fin 256) (stamp : Stamp) :
    Strokes s (s.arriveAt g p stamp) := by
  cases g with
  | none => exact .refl
  | some g => exact .one (.arrive g p stamp)

/-! ## Trip channels -/

theorem fire_strokes (s : State) (c : Fin 8) : Strokes s (s.fire c) := by
  unfold State.fire
  dsimp only
  exact strokes_behind (.head (.emit _) (activateAt_strokes _ _ _)) rfl

theorem evaluate_strokes (s : State) (c : Fin 8) : Strokes s (s.evaluate c) := by
  unfold State.evaluate
  dsimp only
  split
  · exact .refl
  · exact .refl
  · split
    · exact .refl
    · split
      · exact fire_strokes s c
      · exact strokes_behind (.single (.emit _)) rfl

theorem setVoters_strokes (s : State) (c : Fin 8) (voters : List Voter) : Strokes s (s.setVoters c voters) := by
  unfold State.setVoters
  dsimp only
  split
  · exact strokes_behind (evaluate_strokes _ c) rfl
  · exact .write rfl

theorem takePermit_strokes (s : State) (c : Fin 8) : Strokes s (s.takePermit c) := by
  unfold State.takePermit
  dsimp only
  split
  · exact .refl
  · exact strokes_behind (evaluate_strokes _ c) rfl

theorem publishPermits_strokes (s : State) : Strokes s s.publishPermits :=
  forEach_strokes _ s fun c _ s => takePermit_strokes s c

theorem acceptReset_strokes (s : State) (c : Fin 8) : Strokes s (s.acceptReset c) := by
  unfold State.acceptReset
  dsimp only
  exact strokes_behind (.head (.emit _) (deactivateAt_strokes _ _ _)) rfl

theorem endPulse_strokes (s : State) (c : Fin 8) : Strokes s (s.endPulse c) := by
  unfold State.endPulse
  exact strokes_behind (.single (.emit _)) rfl

theorem writeTrip_strokes (s : State) (c : Fin 8) (r : TripRecord) : Strokes s (s.writeTrip c r) :=
  strokes_behind (evaluate_strokes _ c) rfl

/-! ## Health -/

theorem evaluateFeeder_strokes (s : State) : Strokes s s.evaluateFeeder := by
  unfold State.evaluateFeeder
  dsimp only
  split
  · exact strokes_behind (.single (.activate _ _)) rfl
  · split
    · exact strokes_behind (.single (.deactivate _ _)) rfl
    · exact .write rfl

theorem raiseFlag_strokes (s : State) (n : Fin 11) : Strokes s (s.raiseFlag n) := by
  unfold State.raiseFlag
  split
  · exact .refl
  · exact strokes_behind (.single (.emit _)) rfl

theorem setFlag_strokes (s : State) (n : Fin 11) : Strokes s (s.setFlag n) := by
  unfold State.setFlag
  split
  · exact .refl
  · exact (raiseFlag_strokes s n).trans (evaluateFeeder_strokes _)

theorem clearFlag_strokes (s : State) (n : Fin 11) : Strokes s (s.clearFlag n) := by
  unfold State.clearFlag
  split
  · exact strokes_behind (.single (.emit _)) rfl
  · exact .refl

theorem clearAllHealth_strokes (s : State) : Strokes s s.clearAllHealth := by
  unfold State.clearAllHealth
  dsimp only
  exact strokes_behind
    ((forEach_strokes _ _ fun n _ s => clearFlag_strokes s n).trans (evaluateFeeder_strokes _)) rfl

/-! ## Points -/

theorem publishVotes_strokes (s : State) (p : Fin 256) : Strokes s (s.publishVotes p) :=
  forEach_strokes _ s fun c _ s => by
    split <;> exact setVoters_strokes s c _

theorem publishFeeder_strokes (s : State) (p : Fin 256) (was : Bool) (stamp : Stamp) :
    Strokes s (s.publishFeeder p was stamp) := by
  unfold State.publishFeeder
  dsimp only
  split
  · exact (activateAt_strokes s _ _).trans (arriveAt_strokes _ _ _ _)
  · split
    · exact deactivateAt_strokes s _ _
    · exact .refl

theorem changePoint_strokes (s : State) (p : Fin 256) (f : Point → Point) : Strokes s (s.changePoint p f) := by
  unfold State.changePoint
  exact .head (.write (s.modPoint p f) rfl) ((publishFeeder_strokes _ _ _ _).trans (publishVotes_strokes _ _))

theorem serviceOut_strokes (s : State) (p : Fin 256) : Strokes s (s.serviceOut p) := by
  cases hsv : s.tables.point[p].service with
  | out => rw [serviceOut_of_out hsv]
  | inn =>
    rw [serviceOut_of_in hsv]
    refine .head (.emit _) (.head (.write ((s.emit (.service p .out)).takenOut p) rfl) ?_)
    exact (publishFeeder_strokes _ _ _ _).trans (publishVotes_strokes _ _)

theorem serviceIn_strokes (s : State) (p : Fin 256) : Strokes s (s.serviceIn p) := by
  cases hsv : s.tables.point[p].service with
  | inn => rw [serviceIn_of_in hsv]
  | out =>
    rw [serviceIn_of_out hsv]
    refine .head (.emit _) (.head (.write ((s.emit (.service p .inn)).takenIn p) rfl) ?_)
    exact (publishFeeder_strokes _ _ _ _).trans (publishVotes_strokes _ _)

theorem applyChanges_strokes (s : State) (b : ScanChangeBody) (doubted : List (Fin 256)) :
    Strokes s (s.applyChanges b doubted) :=
  applyChanges_keeps (R := Strokes) (fun _ => .refl) (fun h h' => h.trans h')
    (fun s p _ _ => changePoint_strokes s p _) (fun _ _ => .write rfl) publishVotes_strokes s b doubted

/-! ## The Mode Tracker -/

theorem publishInhibition_strokes (s : State) (old : ModeTracker) (p : Fin 256) :
    Strokes s (s.publishInhibition old p) := by
  unfold State.publishInhibition
  dsimp only
  split
  · exact .refl
  · split
    · exact deactivateAt_strokes s _ _
    · exact (activateAt_strokes s _ _).trans (arriveAt_strokes _ _ _ _)

theorem takeMode_strokes (s : State) (m : ModeTracker) : Strokes s (s.takeMode m) := by
  have hrecord : Strokes s (if m.effective = s.mode.effective then { s with mode := m }
      else ({ s with mode := m } : State).emit (.mode m.effective)) := by
    split
    · exact .write rfl
    · exact strokes_behind (u := { s with mode := m }) (.single (.emit _)) rfl
  have hpermits : ∀ u : State, Strokes u (if m.permitMode = s.mode.permitMode then u else u.publishPermits) := by
    intro u
    split
    · exact .refl
    · exact publishPermits_strokes u
  unfold State.takeMode
  dsimp only
  exact (hrecord.trans (hpermits _)).trans (forEach_strokes _ _ fun p _ s => publishInhibition_strokes s _ p)

theorem writePanel_strokes (s : State) (p : Panel) : Strokes s (s.writePanel p) :=
  writePanel_keeps (R := Strokes) (fun _ => .refl) (fun h h' => h.trans h') (fun _ _ => .write rfl) takeMode_strokes
    (fun _ _ => .write rfl) evaluateFeeder_strokes
    (fun _ v w => .head (.deactivate v .health) (.single (.activate w .health))) s p

/-! ## Every act, and the end of a reset -/

theorem Act.strokes (h : Act s t) : Strokes s t := by
  cases h with
  | emit b => exact .one (.emit b)
  | sensing t ht => exact .write (by rw [ht]; rfl)
  | ackWindow w => exact .one (.ackWindow w)
  | resetWindow w => exact .one (.resetWindow w)
  | silence => exact .one .silence
  | writeWindow w r => exact .one (.writeWindow w r)
  | resetGroup g => exact .one (.resetGroup g)
  | freezeGroup g hdue => exact .one (.freezeGroup g hdue)
  | writeGroup g r => exact .one (.writeGroup g r)
  | select => exact .write rfl
  | acceptReset c => exact acceptReset_strokes s c
  | endPulse c => exact endPulse_strokes s c
  | writeTrip c r => exact writeTrip_strokes s c r
  | changePoint p f => exact changePoint_strokes s p f
  | remapPoint => exact .write rfl
  | writePoint => exact .write rfl
  | serviceOut p => exact serviceOut_strokes s p
  | serviceIn p => exact serviceIn_strokes s p
  | applyChanges b doubted => exact applyChanges_strokes s b doubted
  | takeMode m => exact takeMode_strokes s m
  | unitTimer => exact .write rfl
  | writePanel p => exact writePanel_strokes s p
  | settings => exact .write rfl
  | setFlag n => exact setFlag_strokes s n
  | clearHealth => exact clearAllHealth_strokes s
  | management => exact .write rfl
  | storage => exact .write rfl

theorem begun_display (s : State) (celsius : Int) (tenths : Nat) : (s.begun celsius tenths).display = s.display := by
  unfold State.begun
  dsimp only
  split <;> rfl

theorem votesComeUp_strokes (s : State) : Strokes s s.votesComeUp :=
  forEach_strokes _ s fun p _ s => by
    split
    · exact publishVotes_strokes s p
    · exact .refl

theorem flagged_strokes (s : State) (kind : ResetKind) (celsius : Int) (tenths : Nat) :
    Strokes s (s.flagged kind celsius tenths) :=
  .head (.write _ (begun_display s celsius tenths))
    ((votesComeUp_strokes _).trans (forEach_strokes _ _ fun n _ s => raiseFlag_strokes s n))

theorem tripsComeUp_strokes (s : State) : Strokes s s.tripsComeUp :=
  forEach_strokes _ s fun c _ s => by
    split
    · exact activateAt_strokes s _ _
    · exact .refl

theorem finishReset_strokes (s : State) (kind : ResetKind) (celsius : Int) (tenths : Nat) :
    Strokes s (s.finishReset kind celsius tenths) := by
  obtain ⟨u, hu, heq⟩ := finishReset_cases s kind celsius tenths
  have hstart : Strokes s u := by
    refine (flagged_strokes s kind celsius tenths).trans ?_
    rcases hu with h | h
    · exact h ▸ (tripsComeUp_strokes _).trans (evaluateFeeder_strokes _)
    · exact h ▸ (evaluateFeeder_strokes _).trans (tripsComeUp_strokes _)
  exact hstart.tail (.write _ (by rw [heq]; rfl))

/-- A predicate on windows, horn, groups and their records alone that every stroke keeps is kept by a whole reset's end. -/
theorem Strokes.keeps {P : State → Prop} (hP : ∀ {s t}, Stroke s t → P s → P t) (h : Strokes s t) (hs : P s) : P t := by
  induction h with
  | refl => exact hs
  | tail _ hstroke ih => exact hP hstroke ih

end Sys2Proof.Machine
end

section
/-! Settles O8: HELD windows stay fed, QUIET and CLEAR-WAIT windows unfed, and the horn OFF unless some horn-YES window stands
in ALERT (R43, R45, R46, R57). -/

namespace Sys2Proof.Machine

variable {s t : State}

/-! ## What the windows look at -/

/-- Some window with horn YES stands in ALERT (R57). -/
def State.alerting (s : State) : Prop := ∃ w : Fin 96, s.tables.window[w].horn = true ∧ s.windows[w].state = .alert

theorem windowsOk_congr (hwindows : t.windows = s.windows) (hhorn : t.horn = s.horn)
    (htable : t.tables.window = s.tables.window) (hs : s.windowsOk) : t.windowsOk := by
  unfold State.windowsOk
  rw [hwindows, hhorn, htable]
  exact hs

theorem windowsOk_of_display (h : t.display = s.display) (hs : s.windowsOk) : t.windowsOk :=
  windowsOk_congr (congrArg Display.windows h) (congrArg Display.horn h) (congrArg Display.windowTable h) hs

/-- The horn's test makes up for whatever the windows did to the horn. -/
theorem hornCheck_windowsOk (h : ∀ w : Fin 96, s.windows[w].ok) : s.hornCheck.windowsOk := by
  refine ⟨fun w => by rw [hornCheck_windows]; exact h w, fun hsounds => ?_⟩
  cases halert : s.hornAlert with
  | true =>
    obtain ⟨w, hhorn, hstate⟩ := (hornAlert_iff s).mp halert
    rw [hornCheck_eq, if_neg (by rw [halert]; decide)]
    exact ⟨w, hhorn, hstate⟩
  | false => exact absurd (by rw [hornCheck_eq, if_pos halert]) hsounds

/-- Windows that stay in ALERT keep the horn's reason. -/
theorem alerting_mono (htable : t.tables.window = s.tables.window)
    (hstays : ∀ w : Fin 96, s.windows[w].state = .alert → t.windows[w].state = .alert) (h : s.alerting) : t.alerting := by
  obtain ⟨w, hhorn, hstate⟩ := h
  exact ⟨w, by rw [htable]; exact hhorn, hstays w hstate⟩

/-! ## The strokes on windows -/

theorem Window.ok_of_feeders {v v' : Window} (hstate : v'.state = v.state) (hfeeders : v'.feeders = v.feeders) (h : v.ok) :
    v'.ok := by
  unfold Window.ok
  rw [hstate, hfeeders]
  exact h

theorem Window.ok_cleared {r : WindowRecord} {markers : GroupSet} :
    Window.ok { state := clearedState r, feeders := [], markers } :=
  ⟨fun _ => rfl, fun h => absurd h (by unfold clearedState; split <;> simp)⟩

theorem activate_windowsOk (w : Fin 96) (f : Feeder) (hs : s.windowsOk) : (s.activate w f).windowsOk := by
  obtain ⟨hok, hhorn⟩ := hs
  have htable : (s.activate w f).tables.window = s.tables.window :=
    congrArg (fun x : Tables => x.window) (tables_of_offWindows (activate_view s w f))
  have halert : (s.activate w f).windows[w].state = .alert := by rw [activate_windows, upd_self]
  refine ⟨fun v => ?_, fun hsounds => ?_⟩
  · rw [activate_windows, upd_get]
    split
    · exact ⟨fun h => by simp at h, fun h => by simp at h⟩
    · exact hok v
  · rw [activate_horn] at hsounds
    split at hsounds
    next hyes => exact ⟨w, by rw [htable]; exact hyes, halert⟩
    next =>
      refine alerting_mono htable (fun v hv => ?_) (hhorn hsounds)
      rw [activate_windows, upd_get]
      split
      · rfl
      · exact hv

theorem deactivate_windowsOk (w : Fin 96) (f : Feeder) (hs : s.windowsOk) : (s.deactivate w f).windowsOk := by
  obtain ⟨hok, hhorn⟩ := hs
  have htable : (s.deactivate w f).tables.window = s.tables.window :=
    congrArg (fun x : Tables => x.window) (tables_of_offWindows (deactivate_view s w f))
  refine ⟨fun v => ?_, fun hsounds => ?_⟩
  · obtain ⟨hunfed, hfed⟩ := hok v
    rw [deactivate_window]
    split
    · by_cases hcleared : leaveFeeder f s.windows[v].feeders = [] ∧ s.windows[v].state = .held
      · rw [if_pos hcleared, hcleared.1]
        exact Window.ok_cleared
      · rw [if_neg hcleared]
        refine ⟨fun h => ?_, fun hheld hnil => hcleared ⟨hnil, hheld⟩⟩
        show leaveFeeder f s.windows[v].feeders = []
        rw [hunfed h]
        rfl
    · exact ⟨hunfed, hfed⟩
  · rw [deactivate_horn] at hsounds
    refine alerting_mono htable (fun v hv => ?_) (hhorn hsounds)
    rw [deactivate_window]
    split
    · show (if _ then _ else _) = WindowState.alert
      rw [if_neg (by rw [hv]; simp), hv]
    · exact hv

theorem emit_windowsOk (b : ReportBody) (hs : s.windowsOk) : (s.emit b).windowsOk :=
  windowsOk_congr (emit_windows s b) (emit_horn s b) (by rw [emit_tables]) hs

/-- A window that an ACK takes out of ALERT is in order. -/
theorem ackWindow_windowsOk (w : Fin 96) (hs : s.windowsOk) : (s.ackWindow w).windowsOk := by
  by_cases halert : s.windows[w].state = .alert
  · rw [ackWindow_of_alert halert]
    refine hornCheck_windowsOk fun v => ?_
    rw [emit_windows]
    show (upd s.windows w _)[v].ok
    rw [upd_get]
    split
    · unfold ackedState
      split
      next hnil => exact hnil ▸ Window.ok_cleared
      next hfed => exact ⟨fun h => by simp at h, fun _ => hfed⟩
    · exact hs.1 v
  · rwa [ackWindow_of_ne halert]

theorem resetWindow_windowsOk (w : Fin 96) (hs : s.windowsOk) : (s.resetWindow w).windowsOk := by
  by_cases hwaits : s.windows[w].state = .clearWait
  · rw [resetWindow_of_clearWait hwaits]
    refine emit_windowsOk _ ⟨fun v => ?_, fun hsounds => alerting_mono (s := s) rfl (fun v hv => ?_) (hs.2 hsounds)⟩
    · show (upd s.windows w _)[v].ok
      rw [upd_get]
      split
      · exact ⟨fun _ => (hs.1 w).1 (.inr hwaits), fun h => by simp at h⟩
      · exact hs.1 v
    · show (upd s.windows w _)[v].state = _
      rw [upd_ne]
      · exact hv
      · intro heq
        rw [heq, hv] at hwaits
        cases hwaits
  · rwa [resetWindow_of_ne hwaits]

theorem silenceHorn_windowsOk (hs : s.windowsOk) : s.silenceHorn.windowsOk := by
  unfold State.silenceHorn
  split
  next hsounds => exact ⟨hs.1, fun _ => hs.2 (by rw [hsounds]; decide)⟩
  next => exact hs

theorem writeWindow_windowsOk (w : Fin 96) (r : WindowRecord) (hs : s.windowsOk) : (s.writeWindow w r).windowsOk := by
  obtain ⟨hok, hhorn⟩ := hs
  unfold State.writeWindow
  dsimp only
  split
  next => exact hornCheck_windowsOk hok
  next hkept =>
    refine ⟨hok, fun hsounds => ?_⟩
    obtain ⟨v, hyes, halert⟩ := hhorn hsounds
    refine ⟨v, ?_, halert⟩
    show (upd s.tables.window w fun _ => r)[v].horn = true
    rw [upd_get]
    split
    next heq =>
      subst heq
      have halert : s.windows[w].state = .alert := halert
      cases hr : r.horn with
      | true => rfl
      | false =>
        refine absurd ?_ hkept
        rw [hyes, hr]
        exact decide_eq_true halert
    next => exact hyes

/-- A change of markers alone. -/
theorem markers_windowsOk (hstate : ∀ w : Fin 96, t.windows[w].state = s.windows[w].state)
    (hfeeders : ∀ w : Fin 96, t.windows[w].feeders = s.windows[w].feeders) (hhorn : t.horn = s.horn)
    (htable : t.tables.window = s.tables.window) (hs : s.windowsOk) : t.windowsOk :=
  ⟨fun w => Window.ok_of_feeders (hstate w) (hfeeders w) (hs.1 w), fun hsounds =>
    alerting_mono htable (fun w hw => (hstate w).trans hw) (hs.2 (by rwa [← hhorn]))⟩

theorem modMarkers_windowsOk (w : Fin 96) (f : GroupSet → GroupSet) (hs : s.windowsOk) :
    (s.modWindow w fun v => { v with markers := f v.markers }).windowsOk := by
  have hget := fun v => upd_get s.windows w v fun v => { v with markers := f v.markers }
  refine markers_windowsOk (s := s) (fun v => (congrArg Window.state (hget v)).trans ?_)
    (fun v => (congrArg Window.feeders (hget v)).trans ?_) rfl rfl hs
  all_goals
    split
    next heq => subst heq; rfl
    next => rfl

theorem resetGroup_windowsOk (g : Fin 8) (hs : s.windowsOk) : (s.resetGroup g).windowsOk := by
  unfold State.resetGroup
  refine emit_windowsOk _ ?_
  cases s.groups[g].marker with
  | none => exact hs
  | some w => exact modMarkers_windowsOk w (fun m => dropFromSet m g.val) hs

theorem freezeGroup_windowsOk (g : Fin 8) (hs : s.windowsOk) : (s.freezeGroup g).windowsOk := by
  unfold State.freezeGroup
  dsimp only
  refine emit_windowsOk _ ?_
  split
  · exact hs
  · exact modMarkers_windowsOk _ (fun m => addToSet m g.val) hs

/-- An arrival moves groups and records alone. -/
theorem arrive_eq (s : State) (g : Fin 8) (p : Fin 256) (stamp : Stamp) :
    s.arrive g p stamp =
      { s with
        groups := (s.arrive g p stamp).groups, reports := (s.arrive g p stamp).reports
        lost := (s.arrive g p stamp).lost } := by
  generalize hu : s.arrive g p stamp = u
  unfold State.arrive at hu
  dsimp only at hu
  split at hu
  · rw [← hu]
  · split at hu
    · rw [← hu]
    · split at hu
      · unfold State.emit at hu
        split at hu <;> (rw [← hu]; rfl)
      · rw [← hu]; rfl
      · rw [← hu]; rfl

/-- Every stroke keeps the windows and the horn in order. -/
theorem Stroke.windowsOk (h : Stroke s t) (hs : s.windowsOk) : t.windowsOk := by
  cases h with
  | write t ht => exact windowsOk_of_display ht hs
  | emit b => exact emit_windowsOk b hs
  | activate w f => exact activate_windowsOk w f hs
  | deactivate w f => exact deactivate_windowsOk w f hs
  | ackWindow w => exact ackWindow_windowsOk w hs
  | resetWindow w => exact resetWindow_windowsOk w hs
  | silence => exact silenceHorn_windowsOk hs
  | writeWindow w r => exact writeWindow_windowsOk w r hs
  | arrive g p stamp =>
    have h := arrive_eq s g p stamp
    exact windowsOk_congr (congrArg State.windows h) (congrArg State.horn h)
      (congrArg (fun u : State => u.tables.window) h) hs
  | resetGroup g => exact resetGroup_windowsOk g hs
  | freezeGroup g => exact freezeGroup_windowsOk g hs
  | writeGroup g r =>
    unfold State.writeGroup
    dsimp only
    split
    · exact resetGroup_windowsOk g hs
    · exact hs

/-! ## Time and the resets -/

/-- Windows at reset are in order under any records. -/
theorem windowsOk_of_reset (hwindows : s.windows = State.reset.windows) (hhorn : s.horn = .off) : s.windowsOk := by
  refine ⟨fun w => ?_, fun h => absurd hhorn h⟩
  rw [hwindows]
  exact reset_windowsOk.1 w

theorem windowsOk_kept : Kept State.windowsOk where
  link {s t} h hs := by rw [h]; exact hs
  act _ h hs := h.strokes.keeps Stroke.windowsOk hs
  idle {s} hrunning hs := by
    rw [State.microsecond, if_pos hrunning]
    dsimp only
    split <;> exact hs
  ends _ := windowsOk_of_reset rfl rfl
  resets _ _ _ := windowsOk_of_reset rfl rfl
  comesUp {s} kind celsius tenths _ hs := (finishReset_strokes s kind celsius tenths).keeps Stroke.windowsOk hs

/-- Settles O8. -/
theorem windowsKept : Obligations.WindowsKept := by
  unfold Obligations.WindowsKept
  exact fun s t hs h => windowsOk_kept.step hs h

end Sys2Proof.Machine
end

section
/-! Settles O10: each first-out group's list keeps its shape (R64 to R74). -/

namespace Sys2Proof.Machine

variable {s t : State}

/-! ## List order (R66) -/

section ListOrder
variable {o : Stamp} {x y z : Entry}

theorem sortsBefore_iff :
    sortsBefore o x y = true ↔
      offsetFrom o x.stamp < offsetFrom o y.stamp ∨
        offsetFrom o x.stamp = offsetFrom o y.stamp ∧ x.point.val < y.point.val := by
  simp [sortsBefore]

theorem sortsBefore_trans (hxy : sortsBefore o x y = true) (hyz : sortsBefore o y z = true) :
    sortsBefore o x z = true := by
  rw [sortsBefore_iff] at *
  omega

/-- Two entries of distinct points are ordered one way (R66). -/
theorem sortsBefore_comm (h : x.point ≠ y.point) : sortsBefore o x y = true ↔ sortsBefore o y x = false := by
  have hval : x.point.val ≠ y.point.val := fun heq => h (Fin.ext heq)
  rw [← Bool.not_eq_true, sortsBefore_iff, sortsBefore_iff]
  omega

/-! ## Insertion (R68) -/

/-- In list order. -/
abbrev Sorted (o : Stamp) (l : List Entry) : Prop := l.Pairwise fun x y => sortsBefore o x y = true

theorem insertInOrder_perm (o : Stamp) (x : Entry) (l : List Entry) : (insertInOrder o x l).Perm (x :: l) := by
  induction l with
  | nil => exact .refl _
  | cons y rest ih =>
    unfold insertInOrder
    split
    · exact .refl _
    · exact (ih.cons y).trans (.swap x y rest)

theorem insertInOrder_sorted {l : List Entry} (hfresh : ∀ e ∈ l, e.point ≠ x.point) (h : Sorted o l) :
    Sorted o (insertInOrder o x l) := by
  induction l with
  | nil => exact List.pairwise_singleton _ _
  | cons y rest ih =>
    obtain ⟨hy, hrest⟩ := List.pairwise_cons.mp h
    have hyx : y.point ≠ x.point := hfresh y List.mem_cons_self
    unfold insertInOrder
    split
    next hxy =>
      refine List.pairwise_cons.mpr ⟨fun z hz => ?_, h⟩
      rcases List.mem_cons.mp hz with rfl | hz
      · exact hxy
      · exact sortsBefore_trans hxy (hy z hz)
    next hno =>
      refine List.pairwise_cons.mpr ⟨fun z hz => ?_, ih (fun e he => hfresh e (List.mem_cons_of_mem y he)) hrest⟩
      rcases List.mem_cons.mp ((insertInOrder_perm o x rest).mem_iff.mp hz) with rfl | hz
      · exact (sortsBefore_comm hyx).mpr (Bool.not_eq_true _ ▸ hno)
      · exact hy z hz

end ListOrder

/-! ## The shape of an arrival list (R64) -/

section Lists
variable {o : Stamp} {x : Entry} {g : FoGroup} {l : List Entry}

/-- Entries without a LATE one, in list order and of distinct points, and no more than fit. -/
structure PlainList (o : Stamp) (l : List Entry) : Prop where
  fits : l.length ≤ 16
  distinct : (l.map (·.point)).Nodup
  plain : ∀ e ∈ l, e.late = false
  sorted : Sorted o l

theorem PlainList.insert (h : PlainList o l) (hroom : l.length < 16) (hfresh : ∀ e ∈ l, e.point ≠ x.point)
    (hplain : x.late = false) : PlainList o (insertInOrder o x l) := by
  have hperm := insertInOrder_perm o x l
  refine ⟨?_, ?_, fun e he => ?_, insertInOrder_sorted hfresh h.sorted⟩
  · rw [hperm.length_eq]
    exact hroom
  · rw [(hperm.map _).nodup_iff, List.map_cons, List.nodup_cons]
    exact ⟨by simpa using fun e he => hfresh e he, h.distinct⟩
  · rcases List.mem_cons.mp (hperm.mem_iff.mp he) with rfl | he
    · exact hplain
    · exact h.plain e he

theorem PlainList.dropLast (h : PlainList o l) : PlainList o l.dropLast where
  fits := (List.dropLast_sublist l).length_le.trans h.fits
  distinct := h.distinct.sublist ((List.dropLast_sublist l).map _)
  plain e he := h.plain e ((List.dropLast_sublist l).mem he)
  sorted := h.sorted.sublist (List.dropLast_sublist l)

theorem PlainList.listOk {first : Entry} {rest : List Entry} (h : PlainList o (first :: rest))
    (hentries : g.entries = first :: rest) (horigin : g.origin = some o) : g.listOk := by
  unfold FoGroup.listOk
  rw [hentries, horigin]
  refine ⟨h.fits, h.distinct, h.plain first List.mem_cons_self, ?_⟩
  cases rest with
  | nil => exact .inl rfl
  | cons second others =>
    have hsecond : second.late = false := h.plain second (by simp)
    refine .inr ⟨second, others, rfl, fun e he => h.plain e (by simp [he]), ?_⟩
    rw [hsecond]
    exact h.sorted

theorem PlainList.listOk_of_ne_nil (h : PlainList o l) (hne : l ≠ []) (hentries : g.entries = l)
    (horigin : g.origin = some o) : g.listOk := by
  cases l with
  | nil => exact absurd rfl hne
  | cons first rest => exact h.listOk hentries horigin

/-- A list with entries has its origin. -/
theorem FoGroup.listOk.origin_isSome (h : g.listOk) (hne : g.entries ≠ []) : ∃ o, g.origin = some o := by
  obtain ⟨-, -, hshape⟩ := h
  cases horigin : g.origin with
  | some o => exact ⟨o, rfl⟩
  | none =>
    cases hentries : g.entries with
    | nil => exact absurd hentries hne
    | cons first rest => rw [hentries, horigin] at hshape; exact hshape.elim

/-- A list of a group without LATE entries. -/
theorem FoGroup.listOk.plainList (h : g.listOk) (horigin : g.origin = some o) (hplain : ∀ e ∈ g.entries, e.late = false) :
    PlainList o g.entries := by
  obtain ⟨hfits, hdistinct, hshape⟩ := h
  refine ⟨hfits, hdistinct, hplain, ?_⟩
  cases hentries : g.entries with
  | nil => exact List.Pairwise.nil
  | cons first rest =>
    rw [hentries, horigin] at hshape
    obtain ⟨-, rfl | ⟨second, others, rfl, -, hsorted⟩⟩ := hshape
    · exact List.pairwise_singleton _ _
    · have hsecond : second.late = false := hplain second (by simp [hentries])
      rwa [hsecond] at hsorted

end Lists

/-! ## Arrivals (R65 to R72) -/

section Arrivals
variable {o : Stamp} {x : Entry} {g : FoGroup} {enable : Bool}

theorem countUp_le {max n : Nat} (_ : n ≤ max) : countUp max n ≤ max := by
  unfold countUp
  omega

/-- A new list and overflow count under the same state. -/
theorem FoGroup.ok_of_entries {l : List Entry} {n : Nat} (h : g.ok enable) (hstate : g.state ≠ .armed) (hne : l ≠ [])
    (hlist : ({ g with entries := l, overflow := n } : FoGroup).listOk) (hn : n ≤ Config.byteCounterMax)
    (hplain : g.state ≠ .frozen → ∀ e ∈ l, e.late = false) : ({ g with entries := l, overflow := n } : FoGroup).ok enable := by
  obtain ⟨-, -, -, hsettle, hmarker, -, -, henable⟩ := h
  exact ⟨hlist, ⟨fun h => absurd h hstate, fun h => absurd h hne⟩, hn, hsettle, hmarker, hplain, fun h => absurd h hstate,
    henable⟩

theorem FoGroup.ok_of_overflow {n : Nat} (h : g.ok enable) (hstate : g.state ≠ .armed) (hn : n ≤ Config.byteCounterMax) :
    ({ g with overflow := n } : FoGroup).ok enable := by
  obtain ⟨hlist, harmed, -, hsettle, hmarker, hplain, -, henable⟩ := h
  exact ⟨hlist, harmed, hn, hsettle, hmarker, hplain, fun h => absurd h hstate, henable⟩

theorem insertInOrder_ne_nil (o : Stamp) (x : Entry) (l : List Entry) : insertInOrder o x l ≠ [] := by
  intro h
  have := (insertInOrder_perm o x l).length_eq
  simp [h] at this

/-- The first arrival of an ARMED group (R67). -/
theorem FoGroup.ok_armed {n : Nat} {stamp : Stamp} (h : g.ok true) (hstate : g.state = .armed) (hlate : x.late = false) :
    ({ g with state := .settling, entries := [x], origin := some stamp, settle := .running n } : FoGroup).ok true := by
  obtain ⟨-, -, hover, -, hmarker, -, -, -⟩ := h
  have hplain : PlainList stamp [x] :=
    ⟨by simp, by simp, by simpa using hlate, List.pairwise_singleton _ _⟩
  refine ⟨hplain.listOk rfl rfl, by simp, hover, by simp [Timer.isRunning], fun hm => ?_, fun _ => hplain.plain,
    fun h => by simp at h, fun h => by simp at h⟩
  have := hmarker hm
  rw [hstate] at this
  cases this

/-- An arrival in SETTLING (R68, R69). -/
theorem placeSettling_ok (h : g.ok enable) (hstate : g.state = .settling) (horigin : g.origin = some o)
    (hfresh : ∀ e ∈ g.entries, e.point ≠ x.point) (hlate : x.late = false) : (placeSettling o x g).ok enable := by
  have hlist : PlainList o g.entries := by
    obtain ⟨hlist, -, -, -, -, hplain, -, -⟩ := h
    exact hlist.plainList horigin (hplain (by rw [hstate]; decide))
  have harmed : g.state ≠ .armed := by rw [hstate]; decide
  have hover : g.overflow ≤ Config.byteCounterMax := h.2.2.1
  unfold placeSettling
  dsimp only
  split
  next hroom =>
    have hinserted := hlist.insert hroom hfresh hlate
    have hne := insertInOrder_ne_nil o x g.entries
    exact FoGroup.ok_of_entries h harmed hne (hinserted.listOk_of_ne_nil hne rfl horigin) hover fun _ => hinserted.plain
  next hfull =>
    split
    next last hlast =>
      split
      next =>
        have hdropped : g.entries.dropLast.length < 16 := by
          rw [List.length_dropLast]
          have := hlist.fits
          omega
        have hinserted := hlist.dropLast.insert hdropped (fun e he => hfresh e (List.mem_of_mem_dropLast he)) hlate
        have hne := insertInOrder_ne_nil o x g.entries.dropLast
        exact FoGroup.ok_of_entries h harmed hne (hinserted.listOk_of_ne_nil hne rfl horigin) (countUp_le hover)
          fun _ => hinserted.plain
      next => exact FoGroup.ok_of_overflow h harmed (countUp_le hover)
    next => exact h

/-- A LATE entry at position 2 of an otherwise plain list (R71). -/
theorem listOk_of_late {first second : Entry} {others : List Entry} (hplain : PlainList o (first :: others))
    (hlate : second.late = true) (hroom : others.length + 2 ≤ 16)
    (hfresh : ∀ e ∈ first :: others, e.point ≠ second.point) (hentries : g.entries = first :: second :: others)
    (horigin : g.origin = some o) : g.listOk := by
  unfold FoGroup.listOk
  rw [hentries, horigin]
  have hperm : (first :: second :: others).Perm (second :: first :: others) := .swap _ _ _
  refine ⟨hroom, ?_, hplain.plain first List.mem_cons_self, .inr ⟨second, others, rfl, fun e he =>
    hplain.plain e (List.mem_cons_of_mem first he), ?_⟩⟩
  · rw [(hperm.map _).nodup_iff, List.map_cons, List.nodup_cons]
    refine ⟨fun hmem => ?_, hplain.distinct⟩
    obtain ⟨e, he, heq⟩ := List.mem_map.mp hmem
    exact hfresh e he heq
  · rw [hlate]
    exact hplain.sorted

theorem insertInOrder_behind {first : Entry} {rest : List Entry} (h : ¬sortsBefore o x first = true) :
    insertInOrder o x (first :: rest) = first :: insertInOrder o x rest := by
  rw [insertInOrder, if_neg h]

/-- An arrival in FROZEN (R71, R72). -/
theorem placeFrozen_ok (h : g.ok enable) (hstate : g.state = .frozen) (horigin : g.origin = some o)
    (hfresh : ∀ e ∈ g.entries, e.point ≠ x.point) (hlate : x.late = false) : (placeFrozen o x g).ok enable := by
  have harmed : g.state ≠ .armed := by rw [hstate]; decide
  have hover : g.overflow ≤ Config.byteCounterMax := h.2.2.1
  have placed : ∀ l : List Entry, l ≠ [] → ({ g with entries := l } : FoGroup).listOk →
      ({ g with entries := l } : FoGroup).ok enable := fun l hne hlist =>
    FoGroup.ok_of_entries h harmed hne hlist hover fun hne => absurd hstate hne
  have dropped : ({ g with overflow := countUp Config.byteCounterMax g.overflow } : FoGroup).ok enable :=
    FoGroup.ok_of_overflow h harmed (countUp_le hover)
  obtain ⟨-, hdistinct, hshape⟩ := h.1
  unfold placeFrozen
  dsimp only
  split
  next => exact dropped
  next hroom =>
    have hroom : g.entries.length < 16 := Nat.not_le.mp hroom
    split
    next => exact h
    next first rest hentries =>
      rw [hentries, horigin] at hshape
      rw [hentries] at hroom hdistinct hfresh
      obtain ⟨hfirst, hrest⟩ := hshape
      cases rest with
      | nil =>
        have hplain : PlainList o [first] := ⟨by simp, hdistinct, by simpa using hfirst, List.pairwise_singleton _ _⟩
        split
        next =>
          exact placed _ (by simp) (listOk_of_late (g := { g with entries := [first, { x with late := true }] })
            (second := { x with late := true }) hplain rfl (by simp) hfresh rfl horigin)
        next hbehind =>
          have hinserted := hplain.insert hroom hfresh hlate
          rw [insertInOrder_behind hbehind] at hinserted
          exact placed _ (by simp) (hinserted.listOk rfl horigin)
      | cons second others =>
        obtain ⟨second', others', heq, hothers, hsorted⟩ := hrest.resolve_left (by simp)
        obtain ⟨rfl, rfl⟩ := List.cons.inj heq
        cases hsecond : second.late with
        | true =>
          rw [hsecond] at hsorted
          have hplain : PlainList o (first :: others) := by
            have hsub : (first :: others).Sublist (first :: second :: others) := (List.sublist_cons_self second others).cons_cons _
            exact ⟨hsub.length_le.trans hroom.le, hdistinct.sublist (hsub.map _), by simpa [hfirst] using hothers, hsorted⟩
          have hsecondFresh : ∀ e ∈ first :: others, e.point ≠ second.point := by
            have hperm : (first :: second :: others).Perm (second :: first :: others) := .swap _ _ _
            rw [(hperm.map _).nodup_iff, List.map_cons, List.nodup_cons] at hdistinct
            intro e he heq
            exact hdistinct.1 (heq ▸ List.mem_map_of_mem he)
          simp only [hsecond, if_true]
          split
          next => exact dropped
          next hbehind =>
            have hxFresh : ∀ e ∈ first :: others, e.point ≠ x.point := fun e he => hfresh e (by
              rcases List.mem_cons.mp he with rfl | he
              · exact List.mem_cons_self
              · exact List.mem_cons_of_mem _ (List.mem_cons_of_mem _ he))
            have hinserted := hplain.insert (by simp at hroom ⊢; omega) hxFresh hlate
            rw [insertInOrder_behind hbehind] at hinserted
            have hperm := insertInOrder_perm o x others
            refine placed _ (by simp) (listOk_of_late
              (g := { g with entries := first :: second :: insertInOrder o x others }) hinserted hsecond ?_ ?_ rfl horigin)
            · rw [hperm.length_eq]
              simp at hroom ⊢
              omega
            · intro e he
              rcases List.mem_cons.mp ((hperm.cons first).mem_iff.mp he) with rfl | he
              · exact hsecondFresh _ List.mem_cons_self
              · rcases List.mem_cons.mp he with rfl | he
                · exact Ne.symm (hfresh second (by simp))
                · exact hsecondFresh e (List.mem_cons_of_mem _ he)
        | false =>
          rw [hsecond] at hsorted
          have hplain : PlainList o (first :: second :: others) :=
            ⟨hroom.le, hdistinct, by simpa [hfirst, hsecond] using hothers, hsorted⟩
          simp only [hsecond, Bool.false_eq_true, if_false]
          split
          next =>
            exact placed _ (by simp) (listOk_of_late
              (g := { g with entries := first :: { x with late := true } :: second :: others })
              (second := { x with late := true }) hplain rfl (by simp at hroom ⊢; omega) hfresh rfl horigin)
          next hbehind =>
            have hinserted := hplain.insert hroom hfresh hlate
            rw [insertInOrder_behind hbehind] at hinserted
            exact placed _ (by simp) (hinserted.listOk rfl horigin)

end Arrivals

/-! ## The strokes on groups -/

theorem groupsOk_congr (hgroups : t.groups = s.groups) (htable : t.tables.group = s.tables.group) (hs : s.groupsOk) :
    t.groupsOk := by
  intro g
  rw [hgroups, htable]
  exact hs g

/-- One group moves, with its record or without, to a state that is in order under it. -/
theorem groupsOk_of_one {g : Fin 8} (hg : t.groups[g].ok t.tables.group[g].enable)
    (hgroups : ∀ h, h ≠ g → t.groups[h] = s.groups[h])
    (htable : ∀ h, h ≠ g → t.tables.group[h] = s.tables.group[h]) (hs : s.groupsOk) : t.groupsOk := by
  intro h
  by_cases heq : h = g
  · subst heq
    exact hg
  · rw [hgroups h heq, htable h heq]
    exact hs h

theorem modGroup_groupsOk {g : Fin 8} {f : FoGroup → FoGroup} (hf : (f s.groups[g]).ok s.tables.group[g].enable)
    (hs : s.groupsOk) : (s.modGroup g f).groupsOk := by
  refine groupsOk_of_one (s := s) (g := g) ?_ (fun h hne => upd_ne _ _ (Ne.symm hne)) (fun _ _ => rfl) hs
  show (upd s.groups g f)[g].ok _
  rw [upd_self]
  exact hf

theorem emit_groupsOk (b : ReportBody) (hs : s.groupsOk) : (s.emit b).groupsOk :=
  groupsOk_congr (emit_groups s b) (by rw [emit_tables]) hs

theorem groupsOk_of_windows (h : t.offWindows = s.offWindows) : s.groupsOk → t.groupsOk :=
  groupsOk_congr (congrArg State.groups h :) (congrArg Tables.group (tables_of_offWindows h))

theorem arrive_groupsOk (g : Fin 8) (p : Fin 256) (stamp : Stamp) (hs : s.groupsOk) : (s.arrive g p stamp).groupsOk := by
  have hg := hs g
  unfold State.arrive
  dsimp only
  split
  next => exact hs
  next henabled =>
    have henabled : s.tables.group[g].enable = true := by simpa using henabled
    split
    next => exact hs
    next habsent =>
      have hfresh : ∀ e ∈ s.groups[g].entries, e.point ≠ p := by simpa using habsent
      rw [henabled] at hg
      split
      next hstate =>
        exact emit_groupsOk _ (modGroup_groupsOk (by rw [henabled]; exact FoGroup.ok_armed hg hstate rfl) hs)
      next hstate =>
        have hne : s.groups[g].entries ≠ [] := fun h => by
          have := hg.2.1.mpr h
          rw [hstate] at this
          cases this
        obtain ⟨o, ho⟩ := hg.1.origin_isSome hne
        refine modGroup_groupsOk ?_ hs
        rw [henabled, ho]
        exact placeSettling_ok hg hstate ho hfresh rfl
      next hstate =>
        have hne : s.groups[g].entries ≠ [] := fun h => by
          have := hg.2.1.mpr h
          rw [hstate] at this
          cases this
        obtain ⟨o, ho⟩ := hg.1.origin_isSome hne
        refine modGroup_groupsOk ?_ hs
        rw [henabled, ho]
        exact placeFrozen_ok hg hstate ho hfresh rfl

theorem resetGroup_groupsOk (g : Fin 8) (hs : s.groupsOk) : (s.resetGroup g).groupsOk := by
  unfold State.resetGroup
  refine emit_groupsOk _ ?_
  cases s.groups[g].marker with
  | none => exact modGroup_groupsOk (FoGroup.atReset_ok _) hs
  | some w =>
    exact modGroup_groupsOk (s := s.modWindow w fun v => { v with markers := dropFromSet v.markers g.val })
      (FoGroup.atReset_ok _) hs

/-- The settle timer's end (R70). -/
theorem FoGroup.ok_frozen {v : FoGroup} {enable : Bool} {marker : Option (Fin 96)} (h : v.ok enable)
    (hdue : v.settle.isRunning = true) : ({ v with state := .frozen, settle := .stopped, marker } : FoGroup).ok enable := by
  obtain ⟨hlist, harmed, hover, hsettle, -, -, -, henable⟩ := h
  have hstate : v.state = .settling := hsettle.mp hdue
  refine ⟨hlist, ⟨fun h => by simp at h, fun hnil => ?_⟩, hover, by simp [Timer.isRunning], fun _ => rfl,
    fun h => absurd rfl h, fun h => by simp at h, fun h => ?_⟩
  · have := harmed.mpr hnil
    rw [hstate] at this
    cases this
  · have := henable h
    rw [hstate] at this
    cases this

theorem freezeGroup_groupsOk (g : Fin 8) (hdue : s.groups[g].settle.isRunning = true) (hs : s.groupsOk) :
    (s.freezeGroup g).groupsOk := by
  obtain ⟨u, hfreeze, hu, -⟩ := freezeGroup_eq s g
  rw [hfreeze]
  refine emit_groupsOk _ ?_
  have hmod := modGroup_groupsOk (f := fun v =>
    { v with state := .frozen, settle := .stopped, marker := s.verdictWindow g }) (FoGroup.ok_frozen (hs g) hdue) hs
  exact groupsOk_congr (congrArg State.groups hu) (congrArg (fun x : State => x.tables.group) hu) hmod

/-- A group's record with another settle time, or another enable setting where the group is not reset (R63). -/
theorem FoGroup.ok_of_enable {v : FoGroup} {enable enable' : Bool} (h : v.ok enable)
    (hkept : enable = true → enable' = true) : v.ok enable' := by
  obtain ⟨hlist, harmed, hover, hsettle, hmarker, hplain, hzero, henable⟩ := h
  refine ⟨hlist, harmed, hover, hsettle, hmarker, hplain, hzero, fun hno => henable ?_⟩
  cases enable with
  | false => rfl
  | true => rw [hkept rfl] at hno; cases hno

theorem writeGroup_groupsOk (g : Fin 8) (r : GroupRecord) (hs : s.groupsOk) : (s.writeGroup g r).groupsOk := by
  have hrecord : ∀ h, h ≠ g → (upd s.tables.group g fun _ => r)[h] = s.tables.group[h] := fun h hne =>
    upd_ne _ _ (Ne.symm hne)
  have hself : (upd s.tables.group g fun _ => r)[g] = r := upd_self _ _ _
  unfold State.writeGroup
  dsimp only
  split
  next =>
    obtain ⟨u, hreset, hu, -⟩ := resetGroup_eq (s.modTables fun t => { t with group := upd t.group g fun _ => r }) g
    rw [hreset]
    refine emit_groupsOk _ (groupsOk_of_one (s := s) (g := g) ?_ (fun h hne => ?_) (fun h hne => ?_) hs)
    · rw [hu]
      show (upd s.groups g fun _ => FoGroup.atReset)[g].ok _
      rw [upd_self]
      exact FoGroup.atReset_ok _
    · rw [hu]
      exact upd_ne _ _ (Ne.symm hne)
    · rw [hu]
      exact hrecord h hne
  next hkept =>
    refine groupsOk_of_one (s := s) (g := g) ?_ (fun _ _ => rfl) hrecord hs
    show s.groups[g].ok (upd s.tables.group g fun _ => r)[g].enable
    rw [hself]
    refine FoGroup.ok_of_enable (hs g) fun henabled => ?_
    cases hr : r.enable with
    | true => rfl
    | false => exact absurd (by rw [henabled, hr]; rfl) hkept

/-- Every stroke keeps the groups in order. -/
theorem Stroke.groupsOk (h : Stroke s t) (hs : s.groupsOk) : t.groupsOk := by
  cases h with
  | write t ht => exact groupsOk_congr (congrArg Display.groups ht) (congrArg Display.groupTable ht) hs
  | emit b => exact emit_groupsOk b hs
  | activate w f => exact groupsOk_of_windows (activate_view s w f) hs
  | deactivate w f => exact groupsOk_of_windows (deactivate_view s w f) hs
  | ackWindow w => exact groupsOk_of_windows (ackWindow_view s w) hs
  | resetWindow w => exact groupsOk_of_windows (resetWindow_view s w) hs
  | silence => 
    unfold State.silenceHorn
    split <;> exact hs
  | writeWindow w r => 
    unfold State.writeWindow
    dsimp only
    split
    · exact groupsOk_of_windows (hornCheck_view _) hs
    · exact hs
  | arrive g p stamp => exact arrive_groupsOk g p stamp hs
  | resetGroup g => exact resetGroup_groupsOk g hs
  | freezeGroup g hdue => exact freezeGroup_groupsOk g hdue hs
  | writeGroup g r => exact writeGroup_groupsOk g r hs

/-! ## Time and the resets -/

/-- Groups at reset are in order under any records. -/
theorem groupsOk_of_reset (hgroups : s.groups = State.reset.groups) : s.groupsOk := by
  intro g
  have hgroup : s.groups[g] = FoGroup.atReset := by rw [hgroups]; simp [State.reset]
  rw [hgroup]
  exact FoGroup.atReset_ok _

theorem microsecond_groupsOk (hrunning : s.phase = .running) (hs : s.groupsOk) : s.microsecond.groupsOk := by
  rw [State.microsecond, if_pos hrunning]
  dsimp only
  split
  · exact hs
  · intro g
    obtain ⟨hlist, harmed, hover, hsettle, hrest⟩ := hs g
    have hgroup : (s.groups.map fun v => { v with settle := v.settle.tick })[g] =
        { s.groups[g] with settle := s.groups[g].settle.tick } := Vector.getElem_map ..
    show ((s.groups.map fun v => { v with settle := v.settle.tick })[g] : FoGroup).ok _
    rw [hgroup]
    exact ⟨hlist, harmed, hover, by simpa using hsettle, hrest⟩

theorem groupsOk_kept : Kept State.groupsOk where
  link {s t} h hs := by rw [h]; exact hs
  act _ h hs := h.strokes.keeps Stroke.groupsOk hs
  idle hrunning hs := microsecond_groupsOk hrunning hs
  ends _ := groupsOk_of_reset rfl
  resets _ _ _ := groupsOk_of_reset rfl
  comesUp {s} kind celsius tenths _ hs := (finishReset_strokes s kind celsius tenths).keeps Stroke.groupsOk hs

/-- Settles O10. -/
theorem groupsKept : Obligations.GroupsKept := by
  unfold Obligations.GroupsKept
  exact fun s t hs h => groupsOk_kept.step hs h

end Sys2Proof.Machine
end

section
/-! Settles O11: each channel's count, permit and state stay in step, and its lockout record with its state (R84, R86 to
R92). -/

namespace Sys2Proof.Machine

variable {s t : State}

/-! ## One operation for each thing -/

/-- Where an operation takes its own thing from `P` to `Q` and breaks neither at the others, the operations for all of them
take all from `P` to `Q`. -/
theorem forEach_each {n : Nat} {f : Fin n → State → State} {P Q : Fin n → State → Prop}
    (hown : ∀ i s, P i s → Q i (f i s)) (hP : ∀ i j s, j ≠ i → P j s → P j (f i s))
    (hQ : ∀ i j s, j ≠ i → Q j s → Q j (f i s)) (s : State) (hs : ∀ i, P i s) (i : Fin n) :
    Q i (forEach (ascending n) f s) := by
  have hlist : ∀ (l : List (Fin n)) (s : State), l.Nodup → (∀ i ∈ l, P i s) →
      (∀ i ∈ l, Q i (forEach l f s)) ∧ ∀ i ∉ l, Q i s → Q i (forEach l f s) := by
    intro l
    induction l with
    | nil => exact fun s _ _ => ⟨fun i hi => (by cases hi), fun _ _ h => h⟩
    | cons j l ih =>
      intro s hnodup hs
      obtain ⟨hj, hl⟩ := List.nodup_cons.mp hnodup
      obtain ⟨hin, hout⟩ := ih (f j s) hl fun i hi =>
        hP j i s (fun heq => hj (heq ▸ hi)) (hs i (List.mem_cons_of_mem j hi))
      refine ⟨fun i hi => ?_, fun i hi hq => ?_⟩
      · rcases List.mem_cons.mp hi with rfl | hi
        · exact hout i hj (hown i s (hs i List.mem_cons_self))
        · exact hin i hi
      · obtain ⟨hne, hi⟩ := not_or.mp (fun h => hi (List.mem_cons.mpr h))
        exact hout i hi (hQ j i s hne hq)
  exact (hlist _ s (List.nodup_finRange n) fun i _ => hs i).1 i (mem_ascending i)

/-! ## One channel -/

/-- A channel and its lockout record against its record and the trip permit mode. -/
def State.tripOk (s : State) (c : Fin 8) : Prop :=
  s.channels[c].ok s.tables.trip[c] s.mode.permitMode ∧
    (s.phase ≠ .off → (s.nv.lockout[c] = true ↔ s.channels[c].state = .firing ∨ s.channels[c].state = .lockout))

/-- What the state of one channel is judged by. -/
def State.tripAt (s : State) (c : Fin 8) : Channel × TripRecord × Option Mode × Phase × Bool :=
  (s.channels[c], s.tables.trip[c], s.mode.permitMode, s.phase, s.nv.lockout[c])

theorem tripOk_congr {c : Fin 8} (h : t.tripAt c = s.tripAt c) (hs : s.tripOk c) : t.tripOk c := by
  obtain ⟨hchannel, hrecord, hmode, hphase, hlockout⟩ : _ ∧ _ ∧ _ ∧ _ ∧ _ := by
    simpa only [State.tripAt, Prod.mk.injEq] using h
  unfold State.tripOk
  rw [hchannel, hrecord, hmode, hphase, hlockout]
  exact hs

/-- A channel whose count, permit and pulse are right, whatever its state. -/
def Channel.baseOk (r : TripRecord) (mode : Option Mode) (ch : Channel) : Prop :=
  ch.count = voteCount r.stale ch.voters ∧ ch.permit = permitOf r mode ∧ (ch.state = .firing ↔ ch.pulse.isRunning)

/-- The lockout record of a channel against its state (R92). -/
def State.lockoutOk (s : State) (c : Fin 8) : Prop :=
  s.phase ≠ .off → (s.nv.lockout[c] = true ↔ s.channels[c].state = .firing ∨ s.channels[c].state = .lockout)

/-- An active channel has no state to be judged (R88). -/
theorem Channel.ok_of_active {r : TripRecord} {mode : Option Mode} {ch : Channel} (hactive : ch.isActive)
    (h : ch.baseOk r mode) : ch.ok r mode := by
  obtain ⟨hcount, hpermit, hpulse⟩ := h
  refine ⟨hcount, hpermit, fun h => ?_, fun h => ?_, fun h => ?_, hpulse⟩ <;>
    (unfold Channel.isActive at hactive; rw [h] at hactive; simp at hactive)

/-- The state that an evaluation gives is the right one, for a channel that does not fire (R88). -/
theorem Channel.ok_evaluated {r : TripRecord} {mode : Option Mode} {ch : Channel} (hidle : ¬ch.isActive)
    (h : ch.baseOk r mode)
    (hnot : nextChannelState ch.state ch.permit ch.count r.required ≠ .firing) :
    ({ ch with state := nextChannelState ch.state ch.permit ch.count r.required } : Channel).ok r mode := by
  obtain ⟨hcount, hpermit, hpulse⟩ := h
  have hstopped : ¬ch.pulse.isRunning = true := fun hrunning => hidle (.inl (hpulse.mpr hrunning))
  revert hnot
  rw [nextChannelState_eq]
  refine fun hnot => ⟨hcount, hpermit, ?_, ?_, ?_, ⟨fun h => absurd h hnot, fun h => absurd h hstopped⟩⟩
  all_goals
    dsimp only
    split
    next hno => simp [hno]
    next hyes =>
      split
      next hbelow => simp_all
      next hreached =>
        split <;> simp_all

theorem tripAt_of_windows {c : Fin 8} (h : t.offWindows = s.offWindows) : t.tripAt c = s.tripAt c :=
  (congrArg (fun u : State => u.tripAt c) h :)

theorem tripAt_of_groups {c : Fin 8} (h : t.offGroups = s.offGroups) : t.tripAt c = s.tripAt c :=
  (congrArg (fun u : State => u.tripAt c) h :)

theorem tripAt_of_health {c : Fin 8} (h : t.offHealth = s.offHealth) : t.tripAt c = s.tripAt c :=
  (congrArg (fun u : State => u.tripAt c) h :)

/-! ## Evaluation (R88, R89) -/

theorem channelTo_channel (s : State) (c : Fin 8) (st : ChannelState) :
    (s.channelTo c st).channels[c] =
      { s.channels[c] with
        state := st, pulse := if st = .firing then .running s.tables.trip[c].pulseMs else s.channels[c].pulse } :=
  upd_self _ _ _

theorem channelTo_other {c d : Fin 8} (st : ChannelState) (h : d ≠ c) : (s.channelTo c st).tripAt d = s.tripAt d := by
  have hchannel : (s.channelTo c st).channels[d] = s.channels[d] := upd_ne _ _ (Ne.symm h)
  have hlockout : (s.channelTo c st).nv.lockout[d] = s.nv.lockout[d] := by
    unfold State.channelTo
    dsimp only
    split
    · exact upd_ne _ _ (Ne.symm h)
    · rfl
  unfold State.tripAt
  rw [hchannel, hlockout]
  rfl

theorem evaluate_of_active {c : Fin 8} (h : s.channels[c].isActive) : s.evaluate c = s := by
  unfold State.evaluate
  dsimp only
  rcases h with h | h <;> rw [h]

theorem evaluate_other {c d : Fin 8} (h : d ≠ c) : (s.evaluate c).tripAt d = s.tripAt d := by
  by_cases hactive : s.channels[c].isActive
  · rw [evaluate_of_active hactive]
  · exact (tripAt_of_windows (evaluate_offWindows hactive)).trans (channelTo_other _ h)

/-- An evaluation sets a channel's state right (R88, R89, R92). -/
theorem evaluate_tripOk {c : Fin 8} (h : s.channels[c].baseOk s.tables.trip[c] s.mode.permitMode) (hlock : s.lockoutOk c) :
    (s.evaluate c).tripOk c := by
  by_cases hactive : s.channels[c].isActive
  · rw [evaluate_of_active hactive]
    exact ⟨Channel.ok_of_active hactive h, hlock⟩
  · refine tripOk_congr (tripAt_of_windows (evaluate_offWindows hactive)) ?_
    by_cases hfires : s.evaluatedState c = .firing
    · rw [hfires]
      refine ⟨?_, fun _ => ?_⟩
      · rw [channelTo_channel]
        obtain ⟨hcount, hpermit, -⟩ := h
        exact Channel.ok_of_active (.inl rfl) ⟨hcount, hpermit, by simp [Timer.isRunning]⟩
      · rw [channelTo_channel]
        show (upd s.nv.lockout c fun _ => true)[c] = true ↔ _
        rw [upd_self]
        simp
    · rw [channelTo_of_ne_firing hfires]
      have hchannel : (s.modChannel c fun v => { v with state := s.evaluatedState c }).channels[c] =
          { s.channels[c] with state := s.evaluatedState c } := upd_self _ _ _
      refine ⟨?_, fun hon => ?_⟩
      · rw [hchannel]
        exact Channel.ok_evaluated hactive h hfires
      · rw [hchannel]
        have hclear : ¬s.nv.lockout[c] = true := (hlock hon).not.mpr hactive
        have hlockout : ¬s.evaluatedState c = .lockout := by
          unfold State.evaluatedState
          rw [nextChannelState_eq]
          repeat' split
          all_goals simp
        exact ⟨fun h => absurd h hclear, fun h => absurd h (not_or.mpr ⟨hfires, hlockout⟩)⟩

/-- A change of a channel's voters, count or permit, and its evaluation. -/
theorem modChannel_evaluate_tripOk {c : Fin 8} {f : Channel → Channel}
    (hf : (f s.channels[c]).baseOk s.tables.trip[c] s.mode.permitMode) (hstate : (f s.channels[c]).state = s.channels[c].state)
    (hlock : s.lockoutOk c) : ((s.modChannel c f).evaluate c).tripOk c := by
  have hchannel : (s.modChannel c f).channels[c] = f s.channels[c] := upd_self _ _ _
  refine evaluate_tripOk ?_ fun hon => ?_
  · rw [hchannel]
    exact hf
  · rw [hchannel, hstate]
    exact hlock hon

theorem modChannel_other {c d : Fin 8} (f : Channel → Channel) (h : d ≠ c) : (s.modChannel c f).tripAt d = s.tripAt d := by
  have hchannel : (s.modChannel c f).channels[d] = s.channels[d] := upd_ne _ _ (Ne.symm h)
  unfold State.tripAt
  rw [hchannel]
  rfl

/-! ## Votes and permits (R85, R86) -/

theorem setVoters_other {c d : Fin 8} (l : List Voter) (h : d ≠ c) : (s.setVoters c l).tripAt d = s.tripAt d := by
  unfold State.setVoters
  dsimp only
  split
  · exact (evaluate_other h).trans (modChannel_other _ h)
  · exact modChannel_other _ h

theorem setVoters_tripOk {c : Fin 8} (l : List Voter) (hs : s.tripOk c) : (s.setVoters c l).tripOk c := by
  obtain ⟨⟨hcount, hpermit, hdisarmed, harmWait, hready, hpulse⟩, hlock⟩ := hs
  unfold State.setVoters
  dsimp only
  split
  next => exact modChannel_evaluate_tripOk ⟨rfl, hpermit, hpulse⟩ rfl hlock
  next hsame =>
    have hsame : voteCount s.tables.trip[c].stale l = s.channels[c].count := by simpa using hsame
    have hchannel : (s.modChannel c fun v => { v with voters := l, count := voteCount s.tables.trip[c].stale l }).channels[c] =
        { s.channels[c] with voters := l, count := voteCount s.tables.trip[c].stale l } := upd_self _ _ _
    refine ⟨?_, fun hon => ?_⟩
    · rw [hchannel]
      refine ⟨rfl, hpermit, hdisarmed, fun h => ?_, fun h => ?_, hpulse⟩
      · rw [hsame]
        exact harmWait h
      · rw [hsame]
        exact hready h
    · rw [hchannel]
      exact hlock hon

theorem tripsOk_of_own {c : Fin 8} (hown : t.tripOk c) (hother : ∀ d, d ≠ c → t.tripAt d = s.tripAt d) (hs : s.tripsOk) :
    t.tripsOk := by
  intro d
  by_cases h : d = c
  · subst h
    exact hown
  · exact tripOk_congr (hother d h) (hs d)

theorem setVoters_tripsOk (c : Fin 8) (l : List Voter) (hs : s.tripsOk) : (s.setVoters c l).tripsOk :=
  tripsOk_of_own (setVoters_tripOk l (hs c)) (fun _ h => setVoters_other l h) hs

theorem publishVotes_tripsOk (p : Fin 256) (hs : s.tripsOk) : (s.publishVotes p).tripsOk :=
  forEach_keeps (P := State.tripsOk) _ s (fun c _ u hu => by
    split <;> exact setVoters_tripsOk c _ hu) hs

/-- A channel in order but for a permit that a change of mode has left behind (R86). -/
def State.tripStale (s : State) (mode : Option Mode) (c : Fin 8) : Prop :=
  s.channels[c].ok s.tables.trip[c] mode ∧ s.lockoutOk c

theorem takePermit_other {c d : Fin 8} (h : d ≠ c) : (s.takePermit c).tripAt d = s.tripAt d := by
  unfold State.takePermit
  dsimp only
  split
  · rfl
  · exact (evaluate_other h).trans (modChannel_other _ h)

theorem takePermit_tripOk {mode : Option Mode} {c : Fin 8} (hs : s.tripStale mode c) : (s.takePermit c).tripOk c := by
  obtain ⟨⟨hcount, -, hdisarmed, harmWait, hready, hpulse⟩, hlock⟩ := hs
  unfold State.takePermit
  dsimp only
  split
  next hsame => exact ⟨⟨hcount, hsame.symm, hdisarmed, harmWait, hready, hpulse⟩, hlock⟩
  next => exact modChannel_evaluate_tripOk ⟨hcount, rfl, hpulse⟩ rfl hlock

theorem tripStale_congr {mode : Option Mode} {c : Fin 8} (h : t.tripAt c = s.tripAt c) (hs : s.tripStale mode c) :
    t.tripStale mode c := by
  obtain ⟨hchannel, hrecord, -, hphase, hlockout⟩ : _ ∧ _ ∧ _ ∧ _ ∧ _ := by
    simpa only [State.tripAt, Prod.mk.injEq] using h
  unfold State.tripStale State.lockoutOk
  rw [hchannel, hrecord, hphase, hlockout]
  exact hs

/-- Taken afresh, the permits of all channels are right (R34, R86). -/
theorem publishPermits_tripsOk {mode : Option Mode} (hs : ∀ c, s.tripStale mode c) : s.publishPermits.tripsOk :=
  forEach_each (f := fun c s => s.takePermit c) (P := fun c s => s.tripStale mode c) (Q := fun c s => s.tripOk c)
    (fun _ _ h => takePermit_tripOk h) (fun _ _ _ h hs => tripStale_congr (takePermit_other h) hs)
    (fun _ _ _ h hs => tripOk_congr (takePermit_other h) hs) s hs

theorem tripsOk_congr (h : ∀ c, t.tripAt c = s.tripAt c) (hs : s.tripsOk) : t.tripsOk := fun c => tripOk_congr (h c) (hs c)

theorem takeMode_tripsOk (m : ModeTracker) (hs : s.tripsOk) : (s.takeMode m).tripsOk := by
  unfold State.takeMode
  dsimp only
  refine forEach_keeps (P := State.tripsOk) _ _ (fun p _ u hu => tripsOk_congr (fun c =>
    tripAt_of_groups (publishInhibition_view u _ p)) hu) ?_
  have hrecord : ∀ u : State, u = (if m.effective = s.mode.effective then { s with mode := m }
      else ({ s with mode := m } : State).emit (.mode m.effective)) →
      ∀ c, u.tripAt c = ({ s with mode := m } : State).tripAt c := by
    intro u hu c
    rw [hu]
    split
    · rfl
    · exact tripAt_of_windows (emit_view _ _)
  generalize hu : (if m.effective = s.mode.effective then { s with mode := m }
      else ({ s with mode := m } : State).emit (.mode m.effective)) = u
  have hat := hrecord u hu.symm
  split
  next hsame =>
    refine tripsOk_congr hat (tripsOk_congr (s := s) (fun c => ?_) hs)
    unfold State.tripAt
    dsimp only
    rw [hsame]
  next => exact publishPermits_tripsOk (mode := s.mode.permitMode) fun c => tripStale_congr (hat c) (hs c)

/-! ## The other acts on channels -/

/-- An accepted reset leaves the channel DISARMED or READY, with its lockout record clear (R95). -/
theorem acceptReset_tripsOk {c : Fin 8} (hlocked : s.channels[c].state = .lockout)
    (hbelow : s.channels[c].count < s.tables.trip[c].required) (hs : s.tripsOk) : (s.acceptReset c).tripsOk := by
  unfold State.acceptReset
  dsimp only
  refine tripsOk_congr (fun d => tripAt_of_windows ((deactivateAt_view _ _ _).trans (emit_view _ _))) ?_
  generalize hst : nextChannelState .disarmed s.channels[c].permit s.channels[c].count s.tables.trip[c].required = st
  have hchannel : ((s.writeLockout c false).modChannel c fun v => { v with state := st }).channels[c] =
      { s.channels[c] with state := st } := upd_self _ _ _
  have hlockout : ((s.writeLockout c false).modChannel c fun v => { v with state := st }).nv.lockout[c] = false :=
    upd_self _ _ _
  obtain ⟨⟨hcount, hpermit, -, -, -, hpulse⟩, -⟩ := hs c
  have hstopped : ¬s.channels[c].pulse.isRunning = true := fun h => by
    have := hpulse.mpr h
    rw [hlocked] at this
    cases this
  rw [nextChannelState_eq, if_pos hbelow] at hst
  refine tripsOk_of_own (s := s) (c := c) ⟨?_, fun _ => ?_⟩ (fun d h => ?_) hs
  · rw [hchannel]
    by_cases hdenied : s.channels[c].permit = false
    · rw [if_pos hdenied] at hst
      subst hst
      exact ⟨hcount, hpermit, fun _ => hdenied, fun h => (by cases h), fun h => (by cases h), by simpa using hstopped⟩
    · rw [if_neg hdenied] at hst
      subst hst
      exact ⟨hcount, hpermit, fun h => (by cases h), fun h => (by cases h),
        fun _ => ⟨by simpa using hdenied, hbelow⟩, by simpa using hstopped⟩
  · rw [hchannel, hlockout, ← hst]
    dsimp only
    split <;> simp
  · refine (modChannel_other _ h).trans ?_
    have hclear : (s.writeLockout c false).nv.lockout[d] = s.nv.lockout[d] := upd_ne _ _ (Ne.symm h)
    unfold State.tripAt
    rw [hclear]
    rfl

theorem endPulse_tripsOk {c : Fin 8} (hfiring : s.channels[c].state = .firing) (hs : s.tripsOk) :
    (s.endPulse c).tripsOk := by
  unfold State.endPulse
  dsimp only
  refine tripsOk_congr (fun d => tripAt_of_windows (emit_view _ _)) ?_
  have hchannel : (s.modChannel c fun v => { v with state := .lockout, pulse := .stopped }).channels[c] =
      { s.channels[c] with state := .lockout, pulse := .stopped } := upd_self _ _ _
  obtain ⟨⟨hcount, hpermit, -, -, -, -⟩, hlock⟩ := hs c
  have hended : (s.modChannel c fun v => { v with state := .lockout, pulse := .stopped }).tripOk c := by
    refine ⟨?_, fun hon => ?_⟩
    · rw [hchannel]
      exact Channel.ok_of_active (.inr rfl) ⟨hcount, hpermit, by simp [Timer.isRunning]⟩
    · rw [hchannel]
      have hset : s.nv.lockout[c] = true := (hlock hon).mpr (.inl hfiring)
      exact ⟨fun _ => .inr rfl, fun _ => hset⟩
  exact tripsOk_of_own (s := s) (c := c) hended (fun d h => modChannel_other _ h) hs

theorem writeTrip_tripsOk {c : Fin 8} {r : TripRecord} (hs : s.tripsOk) : (s.writeTrip c r).tripsOk := by
  obtain ⟨⟨-, -, -, -, -, hpulse⟩, hlock⟩ := hs c
  rw [writeTrip_eq]
  refine tripsOk_of_own (s := s) (c := c) (evaluate_tripOk ?_ fun hon => ?_) (fun d h => (evaluate_other h).trans ?_) hs
  · rw [withTripRecord_channel, withTripRecord_trip]
    exact ⟨rfl, rfl, hpulse⟩
  · rw [withTripRecord_state]
    exact hlock hon
  · refine (modChannel_other _ h).trans ?_
    have hrecord : (upd s.tables.trip c fun _ => r)[d] = s.tables.trip[d] := upd_ne _ _ (Ne.symm h)
    unfold State.tripAt State.modTables
    dsimp only
    rw [hrecord]

/-! ## Points and settings -/

theorem publish_tripsOk (p : Fin 256) (was : Bool) (stamp : Stamp) (hs : s.tripsOk) :
    ((s.publishFeeder p was stamp).publishVotes p).tripsOk :=
  publishVotes_tripsOk p (tripsOk_congr (fun _ => tripAt_of_groups (publishFeeder_view s p was stamp)) hs)

theorem changePoint_tripsOk (p : Fin 256) (f : Point → Point) (hs : s.tripsOk) : (s.changePoint p f).tripsOk :=
  publish_tripsOk (s := s.modPoint p f) p _ _ hs

theorem emit_tripsOk (b : ReportBody) (hs : s.tripsOk) : (s.emit b).tripsOk :=
  tripsOk_congr (fun _ => tripAt_of_windows (emit_view s b)) hs

theorem serviceOut_tripsOk (p : Fin 256) (hs : s.tripsOk) : (s.serviceOut p).tripsOk := by
  cases hsv : s.tables.point[p].service with
  | out => rwa [serviceOut_of_out hsv]
  | inn =>
    rw [serviceOut_of_in hsv]
    have hemit : (s.emit (.service p .out)).tripsOk := emit_tripsOk _ hs
    exact publish_tripsOk (s := (s.emit (.service p .out)).takenOut p) p _ _ hemit

theorem serviceIn_tripsOk (p : Fin 256) (hs : s.tripsOk) : (s.serviceIn p).tripsOk := by
  cases hsv : s.tables.point[p].service with
  | inn => rwa [serviceIn_of_in hsv]
  | out =>
    rw [serviceIn_of_out hsv]
    have hemit : (s.emit (.service p .inn)).tripsOk := emit_tripsOk _ hs
    exact publish_tripsOk (s := (s.emit (.service p .inn)).takenIn p) p _ _ hemit

theorem applyChanges_tripsOk (s : State) (b : ScanChangeBody) (doubted : List (Fin 256)) :
    s.tripsOk → (s.applyChanges b doubted).tripsOk :=
  applyChanges_keeps (R := fun s t => s.tripsOk → t.tripsOk) (fun _ => id) (fun h h' hs => h' (h hs))
    (fun _ p _ _ => changePoint_tripsOk p _) (fun _ _ => id) (fun _ p => publishVotes_tripsOk p) s b doubted

theorem writePanel_tripsOk (s : State) (p : Panel) : s.tripsOk → (s.writePanel p).tripsOk :=
  writePanel_keeps (R := fun s t => s.tripsOk → t.tripsOk) (fun _ => id) (fun h h' hs => h' (h hs)) (fun _ _ => id)
    (fun _ m => takeMode_tripsOk m) (fun _ _ => id)
    (fun s => tripsOk_congr fun _ => tripAt_of_health (evaluateFeeder_view s))
    (fun s v w => tripsOk_congr fun _ =>
      tripAt_of_windows ((activate_view _ w .health).trans (deactivate_view s v .health))) s p

/-- An act keeps the channels in order. -/
theorem Act.tripsOk (h : Act s t) (hs : s.tripsOk) : t.tripsOk := by
  have same : (∀ c, t.tripAt c = s.tripAt c) → t.tripsOk := fun heq => tripsOk_congr heq hs
  cases h with
  | emit b => exact emit_tripsOk b hs
  | sensing t ht => exact same fun c => by rw [ht]; rfl
  | ackWindow w => exact same fun _ => tripAt_of_windows (ackWindow_view s w)
  | resetWindow w => exact same fun _ => tripAt_of_windows (resetWindow_view s w)
  | silence =>
    unfold State.silenceHorn
    split <;> exact hs
  | writeWindow w r =>
    unfold State.writeWindow
    dsimp only
    split
    · exact tripsOk_congr (fun _ => tripAt_of_windows (hornCheck_view _)) hs
    · exact hs
  | resetGroup g => exact same fun _ => tripAt_of_groups (resetGroup_view s g)
  | freezeGroup g => exact same fun _ => tripAt_of_groups (freezeGroup_view s g)
  | writeGroup g r =>
    unfold State.writeGroup
    dsimp only
    split
    · exact tripsOk_congr (fun _ => tripAt_of_groups (resetGroup_view _ g)) hs
    · exact hs
  | select => exact hs
  | acceptReset c hlocked hbelow => exact acceptReset_tripsOk hlocked hbelow hs
  | endPulse c hfiring => exact endPulse_tripsOk hfiring hs
  | writeTrip c r => exact writeTrip_tripsOk hs
  | changePoint p f => exact changePoint_tripsOk p f hs
  | remapPoint => exact hs
  | writePoint => exact hs
  | serviceOut p => exact serviceOut_tripsOk p hs
  | serviceIn p => exact serviceIn_tripsOk p hs
  | applyChanges b doubted => exact applyChanges_tripsOk s b doubted hs
  | takeMode m => exact takeMode_tripsOk m hs
  | unitTimer => exact hs
  | writePanel p => exact writePanel_tripsOk s p hs
  | settings => exact hs
  | setFlag n => exact same fun _ => tripAt_of_health (setFlag_view s n)
  | clearHealth =>
    exact same fun c => (congrArg (fun u : State => u.tripAt c) (clearAllHealth_view s) :)
  | management => exact hs
  | storage nv f hlockout =>
    refine same fun c => ?_
    unfold State.tripAt State.setFlight
    dsimp only
    rw [hlockout]

/-! ## Time and the resets -/

theorem microsecond_tripsOk (hrunning : s.phase = .running) (hs : s.tripsOk) : s.microsecond.tripsOk := by
  rw [State.microsecond, if_pos hrunning]
  dsimp only
  split
  · exact hs
  · intro c
    obtain ⟨⟨hcount, hpermit, hdisarmed, harmWait, hready, hpulse⟩, hlock⟩ := hs c
    have hchannel : (s.channels.map fun v => { v with pulse := v.pulse.tick })[c] =
        { s.channels[c] with pulse := s.channels[c].pulse.tick } := Vector.getElem_map ..
    refine ⟨?_, fun hon => (hlock hon).trans ?_⟩
    · show ((s.channels.map fun v => { v with pulse := v.pulse.tick })[c] : Channel).ok _ s.mode.permitMode
      rw [hchannel]
      exact ⟨hcount, hpermit, hdisarmed, harmWait, hready, by simpa using hpulse⟩
    · have hstate := congrArg Channel.state hchannel
      exact iff_of_eq (congrArg (fun st => st = ChannelState.firing ∨ st = ChannelState.lockout) hstate.symm)

theorem endOperation_tripsOk (s : State) : s.endOperation.tripsOk := by
  intro c
  have hchannel : s.endOperation.channels[c] = Channel.atReset := by simp [State.endOperation, State.reset]
  rw [hchannel]
  exact ⟨Channel.atReset_ok, fun h => absurd rfl h⟩

/-- A channel after reset is in order under any record (R102). -/
theorem channelAfterReset_ok (r : TripRecord) (locked : Bool) : (channelAfterReset locked).ok r none := by
  cases locked with
  | false => exact Channel.atReset_ok
  | true => exact Channel.ok_of_active (.inr rfl) ⟨rfl, rfl, by simp [channelAfterReset, Channel.atReset, Timer.isRunning]⟩

theorem channelAfterReset_state (locked : Bool) :
    locked = true ↔ (channelAfterReset locked).state = .firing ∨ (channelAfterReset locked).state = .lockout := by
  cases locked <;> simp [channelAfterReset, Channel.atReset]

theorem takeReset_channel (s : State) (kind : ResetKind) (c : Fin 8) :
    (s.takeReset kind).channels[c] = channelAfterReset s.nv.lockout[c] := by
  simp [State.takeReset]

theorem takeReset_tripsOk (s : State) (kind : ResetKind) : (s.takeReset kind).tripsOk := by
  intro c
  rw [takeReset_channel]
  exact ⟨channelAfterReset_ok _ _, fun _ => channelAfterReset_state _⟩

theorem begun_tripsOk (celsius : Int) (tenths : Nat) (hon : s.phase ≠ .off) (hs : s.tripsOk) :
    (s.begun celsius tenths).tripsOk := by
  intro c
  obtain ⟨hok, hlock⟩ := hs c
  unfold State.begun
  dsimp only
  split <;> exact ⟨hok, fun _ => hlock hon⟩

theorem votesComeUp_tripsOk (hs : s.tripsOk) : s.votesComeUp.tripsOk :=
  forEach_keeps (P := State.tripsOk) _ s (fun p _ u hu => by
    split
    · exact publishVotes_tripsOk p hu
    · exact hu) hs

theorem finishReset_tripsOk (kind : ResetKind) (celsius : Int) (tenths : Nat) (hon : s.phase ≠ .off) (hs : s.tripsOk) :
    (s.finishReset kind celsius tenths).tripsOk := by
  have hflagged : (s.flagged kind celsius tenths).tripsOk :=
    tripsOk_congr (fun _ => tripAt_of_health (flagsComeUp_view _ kind)) (votesComeUp_tripsOk (begun_tripsOk celsius tenths hon hs))
  have hfeeder : ∀ u : State, u.tripsOk → u.evaluateFeeder.tripsOk := fun u =>
    tripsOk_congr fun _ => tripAt_of_health (evaluateFeeder_view u)
  have htrips : ∀ u : State, u.tripsOk → u.tripsComeUp.tripsOk := fun u =>
    tripsOk_congr fun _ => tripAt_of_windows (tripsComeUp_view u)
  obtain ⟨u, hu, heq⟩ := finishReset_cases s kind celsius tenths
  have hstarted : u.tripsOk := by
    rcases hu with h | h
    · exact h ▸ hfeeder _ (htrips _ hflagged)
    · exact h ▸ htrips _ (hfeeder _ hflagged)
  rw [heq]
  exact hstarted

theorem tripsOk_kept : Kept State.tripsOk where
  link {s t} h hs := by rw [h]; exact hs
  act _ h hs := h.tripsOk hs
  idle hrunning hs := microsecond_tripsOk hrunning hs
  ends {s} _ := endOperation_tripsOk s
  resets _ kind _ := takeReset_tripsOk _ kind
  comesUp kind celsius tenths hphase hs := finishReset_tripsOk kind celsius tenths (by rw [hphase]; simp) hs

/-- Settles O11. -/
theorem tripsKept : Obligations.TripsKept := by
  unfold Obligations.TripsKept
  exact fun s t hs h => tripsOk_kept.step hs h

end Sys2Proof.Machine
end

section
/-! Settles O12: each voter table holds the vote states of the IN points that name its channel (R22, R83). -/

namespace Sys2Proof.Machine

variable {s t : State}

/-! ## Voter tables as sets (R83) -/

section Tables
variable {l : List Voter} {u v : Voter} {p : Fin 256}

/-- In point-number order, no point twice. -/
abbrev VoterOrder (l : List Voter) : Prop := l.Pairwise fun u v => u.point.val < v.point.val

/-- Tables in order are known by their entries. -/
theorem VoterOrder.ext {l l' : List Voter} (hl : VoterOrder l) (hl' : VoterOrder l') (h : ∀ v, v ∈ l ↔ v ∈ l') : l = l' := by
  have : Std.Irrefl fun u v : Voter => u.point.val < v.point.val := ⟨fun _ => Nat.lt_irrefl _⟩
  have : Std.Antisymm fun u v : Voter => u.point.val < v.point.val := ⟨fun _ _ h h' => absurd h (Nat.lt_asymm h')⟩
  exact hl.eq_of_mem_iff hl' h

theorem mem_putVoter (hl : VoterOrder l) : u ∈ putVoter v l ↔ u = v ∨ u.point ≠ v.point ∧ u ∈ l := by
  induction l with
  | nil => simp [putVoter]
  | cons w rest ih =>
    obtain ⟨hw, hrest⟩ := List.pairwise_cons.mp hl
    have hbehind : ∀ x ∈ rest, v.point.val ≤ w.point.val → x.point ≠ v.point := fun x hx hle heq => by
      have := hw x hx
      rw [heq] at this
      omega
    unfold putVoter
    split
    next heq =>
      have hne : ∀ x ∈ rest, x.point ≠ v.point := fun x hx => hbehind x hx (by rw [heq])
      rw [List.mem_cons, List.mem_cons]
      constructor
      · rintro (rfl | hu)
        · exact .inl rfl
        · exact .inr ⟨hne u hu, .inr hu⟩
      · rintro (rfl | ⟨hpoint, rfl | hu⟩)
        · exact .inl rfl
        · exact absurd heq.symm hpoint
        · exact .inr hu
    next hne =>
      split
      next hlt =>
        have hrestNe : ∀ x ∈ rest, x.point ≠ v.point := fun x hx => hbehind x hx hlt.le
        rw [List.mem_cons]
        refine or_congr Iff.rfl ⟨fun hu => ⟨?_, hu⟩, fun hu => hu.2⟩
        rcases List.mem_cons.mp hu with rfl | hu
        · exact Ne.symm hne
        · exact hrestNe u hu
      next =>
        rw [List.mem_cons, ih hrest, List.mem_cons]
        constructor
        · rintro (rfl | rfl | ⟨hpoint, hu⟩)
          · exact .inr ⟨Ne.symm hne, .inl rfl⟩
          · exact .inl rfl
          · exact .inr ⟨hpoint, .inr hu⟩
        · rintro (rfl | ⟨hpoint, rfl | hu⟩)
          · exact .inr (.inl rfl)
          · exact .inl rfl
          · exact .inr (.inr ⟨hpoint, hu⟩)

theorem putVoter_order (hl : VoterOrder l) : VoterOrder (putVoter v l) := by
  induction l with
  | nil => exact List.pairwise_singleton _ _
  | cons w rest ih =>
    obtain ⟨hw, hrest⟩ := List.pairwise_cons.mp hl
    unfold putVoter
    split
    next heq => exact List.pairwise_cons.mpr ⟨fun x hx => heq ▸ hw x hx, hrest⟩
    next hne =>
      split
      next hlt =>
        refine List.pairwise_cons.mpr ⟨fun x hx => ?_, hl⟩
        rcases List.mem_cons.mp hx with rfl | hx
        · exact hlt
        · exact hlt.trans (hw x hx)
      next hge =>
        refine List.pairwise_cons.mpr ⟨fun x hx => ?_, ih hrest⟩
        rcases (mem_putVoter hrest).mp hx with heq | ⟨-, hx⟩
        · have : v.point.val ≠ w.point.val := fun h => hne (Fin.ext h)
          rw [heq]
          omega
        · exact hw x hx

theorem mem_removeVoter : u ∈ removeVoter p l ↔ u.point ≠ p ∧ u ∈ l := by
  simp [removeVoter, and_comm]

theorem removeVoter_order (hl : VoterOrder l) : VoterOrder (removeVoter p l) := hl.filter _

end Tables

/-! ## What the voter tables are judged by -/

/-- A point's vote state (R22). -/
def State.voterOf (s : State) (p : Fin 256) : Voter :=
  { point := p, condition := s.points[p].condition, quality := s.points[p].quality }

/-- An IN point whose list names the channel (R83). -/
def State.votesAt (s : State) (p : Fin 256) (c : Fin 8) : Prop :=
  s.tables.point[p].service = .inn ∧ c ∈ s.tables.point[p].votes

/-- The voter tables hold just what a point votes. -/
def State.voted (s : State) (p : Fin 256) : Prop :=
  ∀ (c : Fin 8) (v : Voter), v.point = p → (v ∈ s.channels[c].voters ↔ s.votesAt p c ∧ v = s.voterOf p)

/-- The voter tables stand in point-number order. -/
def State.ordered (s : State) : Prop := ∀ c : Fin 8, VoterOrder s.channels[c].voters

theorem votersFor_order (s : State) (c : Fin 8) : VoterOrder (s.votersFor c) := by
  unfold State.votersFor
  refine List.pairwise_map.mpr ?_
  exact ((List.pairwise_lt_finRange 256).filter _).imp fun h => h

theorem mem_votersFor {c : Fin 8} {v : Voter} : v ∈ s.votersFor c ↔ s.votesAt v.point c ∧ v = s.voterOf v.point := by
  unfold State.votersFor
  rw [List.mem_map]
  constructor
  · rintro ⟨p, hp, rfl⟩
    have hp := (List.mem_filter.mp hp).2
    exact ⟨by simpa [State.votesAt] using hp, rfl⟩
  · rintro ⟨hvotes, hv⟩
    refine ⟨v.point, List.mem_filter.mpr ⟨mem_ascending _, ?_⟩, hv.symm⟩
    simpa [State.votesAt] using hvotes

/-- The tables are right when they are in order and each point is voted. -/
theorem voters_eq_iff : (∀ c : Fin 8, s.channels[c].voters = s.votersFor c) ↔ s.ordered ∧ ∀ p, s.voted p := by
  constructor
  · intro h
    refine ⟨fun c => h c ▸ votersFor_order s c, fun p c v hv => ?_⟩
    rw [h c, mem_votersFor, hv]
  · rintro ⟨horder, hvoted⟩ c
    refine (horder c).ext (votersFor_order s c) fun v => ?_
    rw [mem_votersFor]
    exact hvoted v.point c v rfl

/-- Voter tables, points and their records. -/
def State.voteSide (s : State) : (Fin 8 → List Voter) × Vector Point 256 × Vector PointRecord 256 :=
  (fun c => s.channels[c].voters, s.points, s.tables.point)

theorem voted_congr (h : t.voteSide = s.voteSide) {p : Fin 256} (hs : s.voted p) : t.voted p := by
  obtain ⟨hvoters, hpoints, hrecords⟩ : _ ∧ _ ∧ _ := by simpa only [State.voteSide, Prod.mk.injEq] using h
  intro c v
  have hc : t.channels[c].voters = s.channels[c].voters := congrFun hvoters c
  unfold State.votesAt State.voterOf
  rw [hc, hpoints, hrecords]
  exact hs c v

theorem ordered_congr (h : t.voteSide = s.voteSide) (hs : s.ordered) : t.ordered := by
  intro c
  have hc : t.channels[c].voters = s.channels[c].voters := congrFun (congrArg Prod.fst h) c
  rw [hc]
  exact hs c

theorem voteSide_of_groups (h : t.offGroups = s.offGroups) : t.voteSide = s.voteSide := (congrArg State.voteSide h :)

theorem voteSide_of_windows (h : t.offWindows = s.offWindows) : t.voteSide = s.voteSide :=
  voteSide_of_groups (offGroups_of h)

theorem voteSide_of_health (h : t.offHealth = s.offHealth) : t.voteSide = s.voteSide := (congrArg State.voteSide h :)

/-! ## What moves no voter table -/

theorem channelTo_voteSide (s : State) (c : Fin 8) (st : ChannelState) : (s.channelTo c st).voteSide = s.voteSide := by
  have hvoters : ∀ d : Fin 8, (s.channelTo c st).channels[d].voters = s.channels[d].voters := fun d => by
    refine (congrArg Channel.voters (upd_get s.channels c d _)).trans ?_
    split
    next heq => rw [heq]
    next => rfl
  unfold State.voteSide
  rw [funext hvoters]
  rfl

theorem evaluate_voteSide (s : State) (c : Fin 8) : (s.evaluate c).voteSide = s.voteSide := by
  by_cases hactive : s.channels[c].isActive
  · rw [evaluate_of_active hactive]
  · exact (voteSide_of_windows (evaluate_offWindows hactive)).trans (channelTo_voteSide _ _ _)

theorem modChannel_voteSide {c : Fin 8} {f : Channel → Channel} (hf : (f s.channels[c]).voters = s.channels[c].voters) :
    (s.modChannel c f).voteSide = s.voteSide := by
  have hvoters : ∀ d : Fin 8, (s.modChannel c f).channels[d].voters = s.channels[d].voters := fun d => by
    refine (congrArg Channel.voters (upd_get s.channels c d f)).trans ?_
    split
    next heq => exact heq ▸ hf
    next => rfl
  unfold State.voteSide
  rw [funext hvoters]
  rfl

theorem takePermit_voteSide (s : State) (c : Fin 8) : (s.takePermit c).voteSide = s.voteSide := by
  unfold State.takePermit
  dsimp only
  split
  · rfl
  · exact (evaluate_voteSide _ c).trans (modChannel_voteSide rfl)

theorem takeMode_voteSide (s : State) (m : ModeTracker) : (s.takeMode m).voteSide = s.voteSide := by
  have hpermits : ∀ u : State,
      (if m.permitMode = s.mode.permitMode then u else u.publishPermits).voteSide = u.voteSide := fun u => by
    split
    · rfl
    · exact forEach_eq _ _ fun c _ s => takePermit_voteSide s c
  unfold State.takeMode
  dsimp only
  refine (forEach_eq (m := State.voteSide) _ _ fun p _ s => voteSide_of_groups (publishInhibition_view s _ p)).trans ?_
  refine (hpermits _).trans ?_
  split
  · rfl
  · exact (voteSide_of_windows (emit_view _ _)).trans rfl

theorem acceptReset_voteSide (s : State) (c : Fin 8) : (s.acceptReset c).voteSide = s.voteSide := by
  unfold State.acceptReset
  dsimp only
  refine (voteSide_of_windows ((deactivateAt_view _ _ _).trans (emit_view _ _))).trans ?_
  exact (modChannel_voteSide rfl).trans rfl

theorem endPulse_voteSide (s : State) (c : Fin 8) : (s.endPulse c).voteSide = s.voteSide := by
  unfold State.endPulse
  dsimp only
  refine (voteSide_of_windows (emit_view _ _)).trans ?_
  exact (modChannel_voteSide (s := s) (c := c) (f := fun v => { v with state := .lockout, pulse := .stopped }) rfl)

theorem writeTrip_voteSide (s : State) (c : Fin 8) (r : TripRecord) : (s.writeTrip c r).voteSide = s.voteSide := by
  rw [writeTrip_eq]
  refine (evaluate_voteSide _ c).trans ?_
  exact (modChannel_voteSide (s := s.modTables fun t => { t with trip := upd t.trip c fun _ => r }) rfl).trans rfl

theorem writePanel_voteSide (s : State) (p : Panel) : (s.writePanel p).voteSide = s.voteSide :=
  writePanel_keeps (R := fun s t => t.voteSide = s.voteSide) (fun _ => rfl) (fun h h' => h'.trans h) (fun _ _ => rfl)
    takeMode_voteSide (fun _ _ => rfl) (fun s => voteSide_of_health (evaluateFeeder_view s))
    (fun s v w => voteSide_of_windows ((activate_view _ w .health).trans (deactivate_view s v .health))) s p

/-! ## Publishing votes (R22, R83) -/

theorem setVoters_voters (s : State) (c d : Fin 8) (l : List Voter) :
    (s.setVoters c l).channels[d].voters = if c = d then l else s.channels[d].voters := by
  have hmod : ∀ n : Nat, (s.modChannel c fun v => { v with voters := l, count := n }).channels[d].voters =
      if c = d then l else s.channels[d].voters := fun n => by
    refine (congrArg Channel.voters (upd_get s.channels c d _)).trans ?_
    split <;> rfl
  unfold State.setVoters
  dsimp only
  split
  · exact (congrFun (congrArg Prod.fst (evaluate_voteSide _ c)) d).trans (hmod _)
  · exact hmod _

theorem setVoters_points (s : State) (c : Fin 8) (l : List Voter) : (s.setVoters c l).points = s.points :=
  (congrArg State.points (setVoters_view s c l) :)

theorem setVoters_tables (s : State) (c : Fin 8) (l : List Voter) : (s.setVoters c l).tables = s.tables :=
  (congrArg State.tables (setVoters_view s c l) :)

/-- One channel takes a point's vote state, or loses the point's entry (R22, R83). -/
def State.publishVote (s : State) (p : Fin 256) (c : Fin 8) : State :=
  if s.tables.point[p].service = .inn then s.setVoters c (putVoter (s.voterOf p) s.channels[c].voters)
  else s.setVoters c (removeVoter p s.channels[c].voters)

theorem publishVotes_eq (s : State) (p : Fin 256) :
    s.publishVotes p = forEach s.tables.point[p].votes (fun c s => s.publishVote p c) s := rfl

theorem publishVote_points (s : State) (p : Fin 256) (c : Fin 8) : (s.publishVote p c).points = s.points := by
  unfold State.publishVote
  split <;> exact setVoters_points s c _

theorem publishVote_tables (s : State) (p : Fin 256) (c : Fin 8) : (s.publishVote p c).tables = s.tables := by
  unfold State.publishVote
  split <;> exact setVoters_tables s c _

theorem publishVote_ordered (p : Fin 256) (c : Fin 8) (hs : s.ordered) : (s.publishVote p c).ordered := by
  intro d
  unfold State.publishVote
  split
  all_goals
    rw [setVoters_voters]
    split
  · exact putVoter_order (hs c)
  · exact hs d
  · exact removeVoter_order (hs c)
  · exact hs d

/-- What a point's own entries in a table become when it publishes there. -/
theorem mem_publishVote {p : Fin 256} {c d : Fin 8} {v : Voter} (hs : s.ordered) :
    v ∈ (s.publishVote p c).channels[d].voters ↔
      if c = d then s.tables.point[p].service = .inn ∧ v = s.voterOf p ∨ v.point ≠ p ∧ v ∈ s.channels[d].voters
      else v ∈ s.channels[d].voters := by
  unfold State.publishVote
  split
  next hin =>
    rw [setVoters_voters]
    split
    next heq =>
      subst heq
      rw [mem_putVoter (hs c)]
      exact or_congr_left ⟨fun h => ⟨hin, h⟩, And.right⟩
    next => rfl
  next hout =>
    rw [setVoters_voters]
    split
    next heq =>
      subst heq
      rw [mem_removeVoter]
      exact ⟨.inr, fun h => h.resolve_left fun h => hout h.1⟩
    next => rfl

/-- What a point's entries in all tables become when it publishes to a list of channels. -/
theorem publishVotes_list {p : Fin 256} (l : List (Fin 8)) (s : State) (hs : s.ordered) :
    let t := forEach l (fun c s => s.publishVote p c) s
    t.points = s.points ∧ t.tables = s.tables ∧ t.ordered ∧
      ∀ (d : Fin 8) (v : Voter), v ∈ t.channels[d].voters ↔
        if d ∈ l then s.tables.point[p].service = .inn ∧ v = s.voterOf p ∨ v.point ≠ p ∧ v ∈ s.channels[d].voters
        else v ∈ s.channels[d].voters := by
  induction l generalizing s with
  | nil => exact ⟨rfl, rfl, hs, fun d v => by simp⟩
  | cons c l ih =>
    obtain ⟨hpoints, htables, horder, hmem⟩ := ih (s.publishVote p c) (publishVote_ordered p c hs)
    refine ⟨hpoints.trans (publishVote_points s p c), htables.trans (publishVote_tables s p c), horder, fun d v => ?_⟩
    have hvoter : (s.publishVote p c).voterOf p = s.voterOf p := by
      unfold State.voterOf
      rw [publishVote_points]
    have hown : s.voterOf p = v → v.point = p := fun h => h ▸ rfl
    refine (hmem d v).trans ?_
    rw [mem_publishVote hs, publishVote_tables, hvoter]
    by_cases hdc : c = d
    · subst hdc
      by_cases hl : c ∈ l
      · simp [hl]
        tauto
      · simp [hl]
    · have hcd : ¬d = c := fun h => hdc h.symm
      simp [hdc, hcd]

/-- A point has no entry in a table that its list does not name. -/
def State.unlisted (s : State) (p : Fin 256) : Prop :=
  ∀ c : Fin 8, c ∉ s.tables.point[p].votes → ∀ v ∈ s.channels[c].voters, v.point ≠ p

theorem unlisted_of_voted {p : Fin 256} (hs : s.voted p) : s.unlisted p := fun c hc v hv heq =>
  hc ((hs c v heq).mp hv).1.2

theorem publishVotes_points (s : State) (p : Fin 256) : (s.publishVotes p).points = s.points :=
  (congrArg State.points (publishVotes_view s p) :)

theorem publishVotes_tables (s : State) (p : Fin 256) : (s.publishVotes p).tables = s.tables :=
  (congrArg State.tables (publishVotes_view s p) :)

theorem publishVotes_ordered (p : Fin 256) (hs : s.ordered) : (s.publishVotes p).ordered :=
  (publishVotes_list _ s hs).2.2.1

theorem mem_publishVotes {p : Fin 256} {c : Fin 8} {v : Voter} (hs : s.ordered) :
    v ∈ (s.publishVotes p).channels[c].voters ↔
      if c ∈ s.tables.point[p].votes then
        s.tables.point[p].service = .inn ∧ v = s.voterOf p ∨ v.point ≠ p ∧ v ∈ s.channels[c].voters
      else v ∈ s.channels[c].voters :=
  (publishVotes_list _ s hs).2.2.2 c v

theorem voterOf_congr {p : Fin 256} (h : t.points = s.points) : t.voterOf p = s.voterOf p := by
  unfold State.voterOf
  rw [h]

theorem votesAt_congr {p : Fin 256} {c : Fin 8} (h : t.tables = s.tables) : t.votesAt p c ↔ s.votesAt p c := by
  unfold State.votesAt
  rw [h]

/-- Behind its publication the tables hold just what a point votes. -/
theorem publishVotes_voted {p : Fin 256} (horder : s.ordered) (hs : s.unlisted p) : (s.publishVotes p).voted p := by
  intro c v hv
  rw [mem_publishVotes horder, votesAt_congr (publishVotes_tables s p), voterOf_congr (publishVotes_points s p)]
  unfold State.votesAt
  split
  next hc =>
    refine ⟨fun h => ?_, fun h => .inl ⟨h.1.1, h.2⟩⟩
    obtain ⟨hin, heq⟩ := h.resolve_right fun h => h.1 hv
    exact ⟨⟨hin, hc⟩, heq⟩
  next hc => exact ⟨fun hmem => absurd hv (hs c hc v hmem), fun h => absurd h.1.2 hc⟩

/-- A publication leaves the entries of the other points alone. -/
theorem mem_publishVotes_other {p : Fin 256} {c : Fin 8} {v : Voter} (horder : s.ordered) (h : v.point ≠ p) :
    v ∈ (s.publishVotes p).channels[c].voters ↔ v ∈ s.channels[c].voters := by
  have hne : v ≠ s.voterOf p := fun heq => h (heq ▸ rfl)
  rw [mem_publishVotes horder]
  split <;> simp [h, hne]

theorem publishVotes_voted_other {p q : Fin 256} (horder : s.ordered) (h : q ≠ p) (hs : s.voted q) :
    (s.publishVotes p).voted q := by
  intro c v hv
  rw [mem_publishVotes_other horder (hv ▸ h), votesAt_congr (publishVotes_tables s p),
    voterOf_congr (publishVotes_points s p)]
  exact hs c v hv

theorem publishVotes_unlisted_other {p q : Fin 256} (horder : s.ordered) (h : q ≠ p) (hs : s.unlisted q) :
    (s.publishVotes p).unlisted q := by
  intro c hc v hv heq
  rw [publishVotes_tables] at hc
  exact hs c hc v ((mem_publishVotes_other horder (heq ▸ h)).mp hv) heq

/-! ## The acts -/

/-- The tables are in order, and each point is voted. -/
def State.votersRight (s : State) : Prop := s.ordered ∧ ∀ p, s.voted p

theorem votersRight_congr (h : t.voteSide = s.voteSide) (hs : s.votersRight) : t.votersRight :=
  ⟨ordered_congr h hs.1, fun p => voted_congr h (hs.2 p)⟩

/-- A part whose tables are right but for one point's vote state, which it publishes. -/
theorem publishVotes_votersRight {p : Fin 256} (horder : s.ordered) (hown : s.unlisted p)
    (hother : ∀ q, q ≠ p → s.voted q) : (s.publishVotes p).votersRight := by
  refine ⟨publishVotes_ordered p horder, fun q => ?_⟩
  by_cases h : q = p
  · subst h
    exact publishVotes_voted horder hown
  · exact publishVotes_voted_other horder h (hother q h)

/-- A point's state and record may change while its votes stay listed where they were. -/
theorem unlisted_congr {p : Fin 256} (hvoters : ∀ c : Fin 8, t.channels[c].voters = s.channels[c].voters)
    (hvotes : t.tables.point[p].votes = s.tables.point[p].votes) (hs : s.unlisted p) : t.unlisted p := by
  intro c hc v hv
  rw [hvotes] at hc
  rw [hvoters] at hv
  exact hs c hc v hv

theorem voted_of_point {q : Fin 256} (hvoters : ∀ c : Fin 8, t.channels[c].voters = s.channels[c].voters)
    (hpoint : t.points[q] = s.points[q]) (hrecord : t.tables.point[q] = s.tables.point[q]) (hs : s.voted q) :
    t.voted q := by
  intro c v
  unfold State.votesAt State.voterOf
  rw [hvoters, hpoint, hrecord]
  exact hs c v

/-- A part with one point changed, its record and its voter tables left where they were. -/
theorem publish_votersRight {u : State} {p : Fin 256} (hvoters : ∀ c : Fin 8, u.channels[c].voters = s.channels[c].voters)
    (hvotes : u.tables.point[p].votes = s.tables.point[p].votes) (hpoints : ∀ q, q ≠ p → u.points[q] = s.points[q])
    (hrecords : ∀ q, q ≠ p → u.tables.point[q] = s.tables.point[q]) (was : Bool) (stamp : Stamp) (hs : s.votersRight) :
    ((u.publishFeeder p was stamp).publishVotes p).votersRight := by
  have hside := voteSide_of_groups (publishFeeder_view u p was stamp)
  have hown : u.unlisted p := unlisted_congr hvoters hvotes (unlisted_of_voted (hs.2 p))
  have hrecord : (u.publishFeeder p was stamp).tables.point = u.tables.point := congrArg (fun x => x.2.2) hside
  have hchannels : ∀ c : Fin 8, (u.publishFeeder p was stamp).channels[c].voters = u.channels[c].voters := fun c =>
    congrFun (congrArg Prod.fst hside) c
  refine publishVotes_votersRight (ordered_congr hside fun c => ?_) ?_ fun q hq => voted_congr hside ?_
  · rw [hvoters]
    exact hs.1 c
  · exact unlisted_congr hchannels (by rw [hrecord]) hown
  · exact voted_of_point hvoters (hpoints q hq) (hrecords q hq) (hs.2 q)

/-- A changed point behind the change of its feeder, before it publishes its votes. -/
def State.pointMoved (s : State) (p : Fin 256) (f : Point → Point) : State :=
  (s.modPoint p f).publishFeeder p (s.feederActive p) ((s.modPoint p f).points[p].alarmStamp.getD s.clock)

theorem changePoint_eq (s : State) (p : Fin 256) (f : Point → Point) :
    s.changePoint p f = (s.pointMoved p f).publishVotes p := rfl

theorem pointMoved_voteSide (s : State) (p : Fin 256) (f : Point → Point) :
    (s.pointMoved p f).voteSide = (s.modPoint p f).voteSide := voteSide_of_groups (publishFeeder_view _ _ _ _)

theorem changePoint_votersRight (p : Fin 256) (f : Point → Point) (hs : s.votersRight) :
    (s.changePoint p f).votersRight :=
  publish_votersRight (s := s) (u := s.modPoint p f) (fun _ => rfl) rfl (fun _ h => upd_ne _ _ (Ne.symm h))
    (fun _ _ => rfl) _ _ hs

theorem emit_votersRight (b : ReportBody) (hs : s.votersRight) : (s.emit b).votersRight :=
  votersRight_congr (voteSide_of_windows (emit_view s b)) hs

theorem serviceOut_votersRight (p : Fin 256) (hs : s.votersRight) : (s.serviceOut p).votersRight := by
  cases hsv : s.tables.point[p].service with
  | out => rwa [serviceOut_of_out hsv]
  | inn =>
    rw [serviceOut_of_in hsv]
    have hemit : (s.emit (.service p .out)).votersRight := emit_votersRight _ hs
    generalize s.emit (.service p .out) = u at hemit
    refine publish_votersRight (s := u) (u := u.takenOut p) (fun _ => rfl) ?_ (fun q h => upd_ne _ _ (Ne.symm h))
      (fun q h => ?_) _ _ hemit
    · exact (congrArg PointRecord.votes
        (setService_record (u.modPoint p fun v => { v with condition := .normal, delay := .stopped, alarmStamp := none }) p .out) :)
    · exact upd_ne _ _ (Ne.symm h)

theorem serviceIn_votersRight (p : Fin 256) (hs : s.votersRight) : (s.serviceIn p).votersRight := by
  cases hsv : s.tables.point[p].service with
  | inn => rwa [serviceIn_of_in hsv]
  | out =>
    rw [serviceIn_of_out hsv]
    have hemit : (s.emit (.service p .inn)).votersRight := emit_votersRight _ hs
    generalize s.emit (.service p .inn) = u at hemit
    refine publish_votersRight (s := u) (u := u.takenIn p) (fun _ => rfl) ?_ (fun q h => upd_ne _ _ (Ne.symm h))
      (fun q h => ?_) _ _ hemit
    · exact (congrArg PointRecord.votes (setService_record u p .inn) :)
    · exact upd_ne _ _ (Ne.symm h)

/-- An OUT point has no entry in any table, so that its state and its list are free (R83). -/
theorem voted_out {p : Fin 256} (hvoters : ∀ c : Fin 8, t.channels[c].voters = s.channels[c].voters)
    (hout : s.tables.point[p].service = .out) (hout' : t.tables.point[p].service = .out) (hs : s.voted p) : t.voted p := by
  intro c v hv
  rw [hvoters, hs c v hv]
  unfold State.votesAt
  rw [hout, hout']
  simp

/-! ## The gap's doubt (R7, R11) -/

/-- All but the doubted points that have not published yet are voted, and all are unlisted. -/
structure Doubting (doubted published : List (Fin 256)) (s : State) : Prop where
  order : s.ordered
  unlisted : ∀ p, s.unlisted p
  voted : ∀ p, p ∉ doubted ∨ p ∈ published → s.voted p

theorem Doubting.publish {doubted published : List (Fin 256)} {u : State} {p : Fin 256}
    (hvoters : ∀ c : Fin 8, u.channels[c].voters = s.channels[c].voters)
    (hpoints : ∀ q, q ≠ p → u.points[q] = s.points[q]) (hrecords : u.tables.point = s.tables.point)
    (h : Doubting doubted published s) : Doubting doubted (p :: published) (u.publishVotes p) := by
  have horder : u.ordered := fun c => by
    rw [hvoters]
    exact h.order c
  have hunlisted : ∀ q, u.unlisted q := fun q => unlisted_congr hvoters (by rw [hrecords]) (h.unlisted q)
  have hown := publishVotes_voted horder (hunlisted p)
  refine ⟨publishVotes_ordered p horder, fun q => ?_, fun q hq => ?_⟩
  · by_cases heq : q = p
    · subst heq
      exact unlisted_of_voted hown
    · exact publishVotes_unlisted_other horder heq (hunlisted q)
  · by_cases heq : q = p
    · exact heq ▸ hown
    · refine publishVotes_voted_other horder heq (voted_of_point hvoters (hpoints q heq) (by rw [hrecords]) ?_)
      exact h.voted q (hq.imp_right fun hmem => (List.mem_cons.mp hmem).resolve_left heq)

theorem Doubting.change {doubted published : List (Fin 256)} (p : Fin 256) (f : Point → Point)
    (h : Doubting doubted published s) : Doubting doubted (p :: published) (s.changePoint p f) := by
  have hside := pointMoved_voteSide s p f
  refine h.publish (s := s) (u := s.pointMoved p f) (fun c => congrFun (congrArg Prod.fst hside) c) (fun q hq => ?_)
    (congrArg (fun x => x.2.2) hside)
  have hpoints : (s.pointMoved p f).points = upd s.points p f := congrArg (fun x => x.2.1) hside
  rw [hpoints]
  exact upd_ne _ _ (Ne.symm hq)

theorem gapQualities_doubting (doubted : List (Fin 256)) (hs : s.votersRight) : Doubting doubted [] (s.gapQualities doubted) := by
  have hkept : (∀ c : Fin 8, (s.gapQualities doubted).channels[c].voters = s.channels[c].voters) ∧
      (s.gapQualities doubted).tables.point = s.tables.point ∧
      ∀ q, q ∉ doubted → (s.gapQualities doubted).points[q] = s.points[q] := by
    refine forEach_keeps (P := fun u => (∀ c : Fin 8, u.channels[c].voters = s.channels[c].voters) ∧
      u.tables.point = s.tables.point ∧ ∀ q, q ∉ doubted → u.points[q] = s.points[q]) doubted s
      (fun p hp u hu => ⟨hu.1, hu.2.1, fun q hq => ?_⟩) ⟨fun _ => rfl, rfl, fun _ _ => rfl⟩
    exact (upd_ne u.points _ fun heq : p = q => hq (heq ▸ hp)).trans (hu.2.2 q hq)
  obtain ⟨hvoters, hrecords, hpoints⟩ := hkept
  refine ⟨fun c => ?_, fun p => ?_, fun p hp => ?_⟩
  · rw [hvoters]
    exact hs.1 c
  · exact unlisted_congr hvoters (by rw [hrecords]) (unlisted_of_voted (hs.2 p))
  · exact voted_of_point hvoters (hpoints p (hp.resolve_right List.not_mem_nil)) (by rw [hrecords]) (hs.2 p)

theorem applyChange_doubting (b : ScanChangeBody) (r : ChangeRecord) {doubted : List (Fin 256)}
    {x : State × List (Fin 256)} (h : Doubting doubted x.2 x.1) :
    Doubting doubted (applyChange b x r).2 (applyChange b x r).1 := by
  unfold applyChange
  split
  · exact h
  · split
    · exact h
    next e p _ =>
      split
      · exact h
      · exact h.change p _

theorem applyChanges_votersRight (b : ScanChangeBody) (doubted : List (Fin 256)) (hs : s.votersRight) :
    (s.applyChanges b doubted).votersRight := by
  have hrecords : ∀ (l : List ChangeRecord) (x : State × List (Fin 256)), Doubting doubted x.2 x.1 →
      Doubting doubted (l.foldl (applyChange b) x).2 (l.foldl (applyChange b) x).1 := by
    intro l
    induction l with
    | nil => exact fun _ h => h
    | cons r l ih => exact fun x h => ih _ (applyChange_doubting b r h)
  have hlate : ∀ (l : List (Fin 256)) (published : List (Fin 256)) (u : State), Doubting doubted published u →
      Doubting doubted (l.reverse ++ published) (forEach l (fun p s => s.publishVotes p) u) := by
    intro l
    induction l with
    | nil => exact fun _ _ h => h
    | cons p l ih =>
      intro published u h
      have := ih (p :: published) (u.publishVotes p) (h.publish (fun _ => rfl) (fun _ _ => rfl) rfl)
      simpa using this
  have hgap := hrecords b.records (s.gapQualities doubted, []) (gapQualities_doubting doubted hs)
  have hdone := hlate (doubted.filter fun p => p ∉ (b.records.foldl (applyChange b) (s.gapQualities doubted, [])).2) _ _ hgap
  refine ⟨hdone.order, fun p => hdone.voted p ?_⟩
  by_cases hp : p ∈ doubted
  · refine .inr ?_
    by_cases hpub : p ∈ (b.records.foldl (applyChange b) (s.gapQualities doubted, [])).2
    · exact List.mem_append_right _ hpub
    · exact List.mem_append_left _ (List.mem_reverse.mpr (List.mem_filter.mpr ⟨hp, by simpa using hpub⟩))
  · exact .inl hp

/-- An act keeps the voter tables right. -/
theorem Act.votersRight (h : Act s t) (hs : s.votersRight) : t.votersRight := by
  have same : t.voteSide = s.voteSide → t.votersRight := fun heq => votersRight_congr heq hs
  cases h with
  | emit b => exact emit_votersRight b hs
  | sensing t ht => exact same (by rw [ht]; rfl)
  | ackWindow w => exact same (voteSide_of_windows (ackWindow_view s w))
  | resetWindow w => exact same (voteSide_of_windows (resetWindow_view s w))
  | silence =>
    unfold State.silenceHorn
    split <;> exact hs
  | writeWindow w r =>
    unfold State.writeWindow
    dsimp only
    split
    · exact votersRight_congr (voteSide_of_windows (hornCheck_view _)) hs
    · exact hs
  | resetGroup g => exact same (voteSide_of_groups (resetGroup_view s g))
  | freezeGroup g => exact same (voteSide_of_groups (freezeGroup_view s g))
  | writeGroup g r =>
    unfold State.writeGroup
    dsimp only
    split
    · exact votersRight_congr (voteSide_of_groups (resetGroup_view _ g)) hs
    · exact hs
  | select => exact hs
  | acceptReset c => exact same (acceptReset_voteSide s c)
  | endPulse c => exact same (endPulse_voteSide s c)
  | writeTrip c r => exact same (writeTrip_voteSide s c r)
  | changePoint p f => exact changePoint_votersRight p f hs
  | remapPoint p f hout =>
    refine ⟨hs.1, fun q => ?_⟩
    by_cases heq : q = p
    · subst heq
      exact voted_out (s := s) (fun _ => rfl) hout hout (hs.2 q)
    · exact voted_of_point (s := s) (fun _ => rfl) (upd_ne _ _ (Ne.symm heq)) rfl (hs.2 q)
  | writePoint p r hout hr =>
    have hself : (upd s.tables.point p fun _ => r)[p] = r := upd_self _ _ _
    refine ⟨hs.1, fun q => ?_⟩
    by_cases heq : q = p
    · subst heq
      exact voted_out (s := s) (fun _ => rfl) hout (by rw [← hr]; exact congrArg PointRecord.service hself) (hs.2 q)
    · exact voted_of_point (s := s) (fun _ => rfl) rfl (upd_ne _ _ (Ne.symm heq)) (hs.2 q)
  | serviceOut p => exact serviceOut_votersRight p hs
  | serviceIn p => exact serviceIn_votersRight p hs
  | applyChanges b doubted => exact applyChanges_votersRight b doubted hs
  | takeMode m => exact same (takeMode_voteSide s m)
  | unitTimer => exact hs
  | writePanel p => exact same (writePanel_voteSide s p)
  | settings => exact hs
  | setFlag n => exact same (voteSide_of_health (setFlag_view s n))
  | clearHealth => exact same (congrArg State.voteSide (clearAllHealth_view s) :)
  | management => exact hs
  | storage => exact hs

/-! ## Time and the end of a reset -/

theorem microsecond_votersRight (hrunning : s.phase = .running) (hs : s.votersRight) : s.microsecond.votersRight := by
  rw [State.microsecond, if_pos hrunning]
  dsimp only
  split
  · exact hs
  · have hvoters : ∀ c : Fin 8, (s.channels.map fun v : Channel => { v with pulse := v.pulse.tick })[c].voters =
        s.channels[c].voters := fun c => by
      have h : (s.channels.map fun v : Channel => { v with pulse := v.pulse.tick })[c] =
          { s.channels[c] with pulse := s.channels[c].pulse.tick } := Vector.getElem_map ..
      rw [h]
    have hcondition : ∀ p : Fin 256, (s.points.map fun v => { v with delay := v.delay.tick })[p] =
        { s.points[p] with delay := s.points[p].delay.tick } := fun p => Vector.getElem_map ..
    refine ⟨fun c => ?_, fun p c v hv => ?_⟩
    · exact (hvoters c).symm ▸ hs.1 c
    · have hkept := hs.2 p c v hv
      rw [← hvoters c] at hkept
      refine hkept.trans (and_congr_right fun _ => iff_of_eq (congrArg (v = ·) ?_))
      unfold State.voterOf
      refine congrArg₂ (fun condition quality => ({ point := p, condition, quality } : Voter)) ?_ ?_
      · exact (congrArg Point.condition (hcondition p)).symm
      · exact (congrArg Point.quality (hcondition p)).symm

/-- Channels that no point has published to yet. -/
def State.voteless (s : State) : Prop := ∀ c : Fin 8, s.channels[c].voters = []

theorem channelAfterReset_voters (locked : Bool) : (channelAfterReset locked).voters = [] := by
  cases locked <;> rfl

theorem voteless_of_reset (hs : s.restOk) {kind : ResetKind} (hphase : s.phase = .inReset kind) : s.voteless := by
  intro c
  obtain ⟨-, -, hreset⟩ := hs (by rw [hphase]; simp)
  rw [(hreset (by rw [hphase]; simp)).2]
  simp [channelAfterReset_voters]

/-- A point without an entry in any table. -/
def State.absent (s : State) (p : Fin 256) : Prop := ∀ (c : Fin 8), ∀ v ∈ s.channels[c].voters, v.point ≠ p

/-- An IN point publishes as a reset ends; an OUT point has nothing to publish (R23). -/
def State.voteComesUp (s : State) (p : Fin 256) : State := if s.tables.point[p].service = .inn then s.publishVotes p else s

theorem voteComesUp_keeps {P : State → Prop} {p : Fin 256} (hs : P s) (hpublish : P (s.publishVotes p)) :
    P (s.voteComesUp p) := by
  unfold State.voteComesUp
  split
  · exact hpublish
  · exact hs

theorem voteComesUp_voted {p : Fin 256} (horder : s.ordered) (habsent : s.absent p) : (s.voteComesUp p).voted p := by
  unfold State.voteComesUp
  split
  next => exact publishVotes_voted horder fun c _ => habsent c
  next hout => exact fun c v hv => ⟨fun h => absurd hv (habsent c v h), fun h => absurd h.1.1 hout⟩

/-- Once the IN points have published, the tables are right (R23). -/
theorem votesComeUp_votersRight (hs : s.voteless) : s.votesComeUp.votersRight := by
  have horder : s.ordered := fun c => by
    rw [hs c]
    exact .nil
  have hall := forEach_each (f := fun p s => s.voteComesUp p) (P := fun p s => s.ordered ∧ s.absent p)
    (Q := fun p s => s.ordered ∧ s.voted p)
    (fun p u h => ⟨voteComesUp_keeps h.1 (publishVotes_ordered p h.1), voteComesUp_voted h.1 h.2⟩)
    (fun p q u hne h => voteComesUp_keeps (P := fun u => u.ordered ∧ u.absent q) h
      ⟨publishVotes_ordered p h.1, fun c v hv heq =>
        h.2 c v ((mem_publishVotes_other h.1 (heq ▸ hne)).mp hv) heq⟩)
    (fun p q u hne h => voteComesUp_keeps (P := fun u => u.ordered ∧ u.voted q) h
      ⟨publishVotes_ordered p h.1, publishVotes_voted_other h.1 hne h.2⟩)
    s (fun p => ⟨horder, fun c v hv => by rw [hs c] at hv; cases hv⟩)
  exact ⟨(hall 0).1, fun p => (hall p).2⟩

theorem begun_voteless (celsius : Int) (tenths : Nat) (hs : s.voteless) : (s.begun celsius tenths).voteless := by
  unfold State.begun
  dsimp only
  split <;> exact hs

theorem finishReset_votersRight (kind : ResetKind) (celsius : Int) (tenths : Nat) (hs : s.voteless) :
    (s.finishReset kind celsius tenths).votersRight := by
  have hflagged : (s.flagged kind celsius tenths).votersRight :=
    votersRight_congr (voteSide_of_health (flagsComeUp_view _ kind))
      (votesComeUp_votersRight (begun_voteless celsius tenths hs))
  have hfeeder : ∀ u : State, u.votersRight → u.evaluateFeeder.votersRight := fun u =>
    votersRight_congr (voteSide_of_health (evaluateFeeder_view u))
  have htrips : ∀ u : State, u.votersRight → u.tripsComeUp.votersRight := fun u =>
    votersRight_congr (voteSide_of_windows (tripsComeUp_view u))
  obtain ⟨u, hu, heq⟩ := finishReset_cases s kind celsius tenths
  have hstarted : u.votersRight := by
    rcases hu with h | h
    · exact h ▸ hfeeder _ (htrips _ hflagged)
    · exact h ▸ htrips _ (hfeeder _ hflagged)
  rw [heq]
  exact hstarted

theorem votersOk_iff : s.votersOk ↔ (s.phase = .running → s.votersRight) := by
  unfold State.votersOk State.votersRight
  exact imp_congr_right fun _ => voters_eq_iff

theorem votersOk_keeps : Keeps State.votersOk where
  link {s t} h hs := by rw [h]; exact hs
  act hrunning h hs := votersOk_iff.mpr fun _ => h.votersRight (votersOk_iff.mp hs hrunning)
  idle hrunning hs := votersOk_iff.mpr fun _ => microsecond_votersRight hrunning (votersOk_iff.mp hs hrunning)
  ends _ := fun h => by cases h
  resets _ _ _ := fun h => by cases h

/-- Settles O12. -/
theorem votersKept : Obligations.VotersKept := by
  unfold Obligations.VotersKept
  intro s t hrest hs h
  refine votersOk_keeps.step hs (fun rest kind celsius tenths hphase => ?_) h
  exact votersOk_iff.mpr fun _ =>
    finishReset_votersRight kind celsius tenths (s := { s with pending := rest }) fun c => voteless_of_reset hrest hphase c

end Sys2Proof.Machine
end

section
/-! Settles O9: each window's active feeder set holds the active feeders that name it, and the health feeder is active while an
unmasked flag is SET (R20, R41, R42, R98, R137). -/

namespace Sys2Proof.Machine

variable {s t : State}

/-! ## The members of the feeder sets (R41) -/

theorem mem_joinFeeder_iff {f g : Feeder} {l : List Feeder} : g ∈ joinFeeder f l ↔ g = f ∨ g ∈ l := by
  induction l with
  | nil => simp [joinFeeder]
  | cons h rest ih =>
    unfold joinFeeder
    split
    next heq =>
      subst heq
      rw [List.mem_cons]
      tauto
    next =>
      split
      · rw [List.mem_cons]
      · rw [List.mem_cons, ih, List.mem_cons]
        tauto

/-- A feeder stands in a window's active feeder set. -/
def State.feedsIn (s : State) (f : Feeder) (w : Fin 96) : Prop := f ∈ s.windows[w].feeders

/-- The windows that a feeder stands in are the same. -/
abbrev State.sameMember (s t : State) (f : Feeder) : Prop := ∀ w, t.feedsIn f w ↔ s.feedsIn f w

theorem sameMember_of_feeders {f : Feeder} (h : ∀ w : Fin 96, t.windows[w].feeders = s.windows[w].feeders) :
    s.sameMember t f := fun w => by
  unfold State.feedsIn
  rw [h]

theorem feedsIn_activate {w v : Fin 96} {f g : Feeder} :
    (s.activate w f).feedsIn g v ↔ g = f ∧ w = v ∨ s.feedsIn g v := by
  unfold State.feedsIn
  rw [activate_windows, upd_get]
  split
  next heq =>
    subst heq
    simp [mem_joinFeeder_iff]
  next hne => simp [hne]

theorem feedsIn_deactivate {w v : Fin 96} {f g : Feeder} :
    (s.deactivate w f).feedsIn g v ↔ s.feedsIn g v ∧ ¬(g = f ∧ w = v) := by
  unfold State.feedsIn
  rw [deactivate_window]
  split
  next heq => simp [leaveFeeder, heq]
  next hne => simp [hne]

theorem feedsIn_activateAt {x : Option (Fin 96)} {v : Fin 96} {f g : Feeder} :
    (s.activateAt x f).feedsIn g v ↔ g = f ∧ x = some v ∨ s.feedsIn g v := by
  cases x with
  | none => simp [State.activateAt]
  | some w => simp [State.activateAt, feedsIn_activate]

theorem feedsIn_deactivateAt {x : Option (Fin 96)} {v : Fin 96} {f g : Feeder} :
    (s.deactivateAt x f).feedsIn g v ↔ s.feedsIn g v ∧ ¬(g = f ∧ x = some v) := by
  cases x with
  | none => simp [State.deactivateAt]
  | some w => simp [State.deactivateAt, feedsIn_deactivate]

theorem emit_sameMember (s : State) (b : ReportBody) (f : Feeder) : s.sameMember (s.emit b) f :=
  sameMember_of_feeders fun w => by rw [emit_windows]

theorem arriveAt_sameMember (s : State) (g : Option (Fin 8)) (p : Fin 256) (stamp : Stamp) (f : Feeder) :
    s.sameMember (s.arriveAt g p stamp) f := by
  cases g with
  | none => exact fun _ => Iff.rfl
  | some g => exact sameMember_of_feeders fun w => by rw [State.arriveAt, arrive_eq]

/-! ## What the sets are judged by -/

/-- Whether a feeder is active, and the window that it names, with `h` as the health window. -/
def State.feedAt (s : State) (h : Fin 96) (f : Feeder) : Bool × Option (Fin 96) :=
  match f with
  | .point p => (s.feederActive p, s.tables.point[p].window)
  | .channel c => (decide s.channels[c].isActive, s.tables.trip[c].window)
  | .health => (s.health.feeder, some h)

theorem feeds_iff (f : Feeder) (w : Fin 96) :
    s.feeds f w ↔ s.feedAt s.tables.panel.healthWindow f = (true, some w) := by
  cases f <;> simp [State.feeds, State.feedAt, Channel.isActive]

/-- A feeder stands in the windows that it feeds. -/
def State.fed (s : State) (h : Fin 96) (f : Feeder) : Prop := ∀ w, s.feedsIn f w ↔ s.feedAt h f = (true, some w)

theorem fed_congr {h : Fin 96} {f : Feeder} (hmember : s.sameMember t f) (hfeed : t.feedAt h f = s.feedAt h f)
    (hs : s.fed h f) : t.fed h f := fun w => by rw [hmember w, hfeed]; exact hs w

/-- An inactive feeder stands nowhere. -/
theorem not_feedsIn {h : Fin 96} {f : Feeder} (hs : s.fed h f) (hinactive : (s.feedAt h f).1 = false) (w : Fin 96) :
    ¬s.feedsIn f w := fun hmem => by
  rw [(hs w).mp hmem] at hinactive
  cases hinactive

theorem feedAt_of_groups {h : Fin 96} (heq : t.offGroups = s.offGroups) (f : Feeder) : t.feedAt h f = s.feedAt h f := by
  cases f with
  | point p => exact (congrArg (fun u : State => u.feedAt h (.point p)) heq :)
  | channel c => exact (congrArg (fun u : State => u.feedAt h (.channel c)) heq :)
  | health => exact (congrArg (fun u : State => u.feedAt h .health) heq :)

theorem feedAt_of_windows {h : Fin 96} (heq : t.offWindows = s.offWindows) (f : Feeder) : t.feedAt h f = s.feedAt h f :=
  feedAt_of_groups (offGroups_of heq) f

theorem emit_fed {h : Fin 96} {f : Feeder} (b : ReportBody) (hs : s.fed h f) : (s.emit b).fed h f :=
  fed_congr (emit_sameMember s b f) (feedAt_of_windows (emit_view s b) f) hs

/-! ## Channels (R89, R98) -/

/-- A channel's feeder is active while the channel is. -/
theorem feedAt_channel (h : Fin 96) (c : Fin 8) :
    s.feedAt h (.channel c) = (decide s.channels[c].isActive, s.tables.trip[c].window) := rfl

theorem channelTo_feedAt_other {h : Fin 96} {c : Fin 8} (st : ChannelState) {f : Feeder} (hf : f ≠ .channel c) :
    (s.channelTo c st).feedAt h f = s.feedAt h f := by
  cases f with
  | point => rfl
  | health => rfl
  | channel d =>
    have hne : d ≠ c := fun heq => hf (heq ▸ rfl)
    have hchannel : (s.channelTo c st).channels[d] = s.channels[d] := upd_ne _ _ (Ne.symm hne)
    rw [feedAt_channel, feedAt_channel, hchannel]
    rfl

theorem modChannel_feedAt {h : Fin 96} {c : Fin 8} {g : Channel → Channel}
    (hg : (g s.channels[c]).state = s.channels[c].state) (f : Feeder) : (s.modChannel c g).feedAt h f = s.feedAt h f := by
  cases f with
  | point => rfl
  | health => rfl
  | channel d =>
    have hstate : (s.modChannel c g).channels[d].state = s.channels[d].state := by
      refine (congrArg Channel.state (upd_get s.channels c d g)).trans ?_
      split
      next heq => exact heq ▸ hg
      next => rfl
    have hactive : (s.modChannel c g).channels[d].isActive ↔ s.channels[d].isActive := by
      unfold Channel.isActive
      rw [hstate]
    exact Prod.ext (decide_eq_decide.mpr hactive) rfl

/-- An evaluation feeds the channel's window when the channel fires, and moves no other feeder. -/
theorem evaluate_fed {h : Fin 96} {f : Feeder} (c : Fin 8) (hs : s.fed h f) : (s.evaluate c).fed h f := by
  by_cases hactive : s.channels[c].isActive
  · rwa [evaluate_of_active hactive]
  by_cases hfires : s.evaluatedState c = .firing
  · rw [evaluate_of_fires hactive hfires]
    have hview : (((s.channelTo c .firing).emit (.trip c .firing)).activateAt s.tables.trip[c].window
        (.channel c)).feedAt h f = (s.channelTo c .firing).feedAt h f :=
      feedAt_of_windows ((activateAt_view _ _ _).trans (emit_view _ _)) f
    intro w
    rw [hview, feedsIn_activateAt, emit_sameMember]
    by_cases hf : f = .channel c
    · subst hf
      have hnone : ¬(s.channelTo c .firing).feedsIn (.channel c) w :=
        not_feedsIn (s := s) (h := h) hs (by simpa [State.feedAt] using hactive) w
      have hself : (s.channelTo c .firing).channels[c].isActive := by
        rw [channelTo_channel]
        exact .inl rfl
      rw [feedAt_channel, decide_eq_true hself]
      simp only [hnone, or_false, true_and, Prod.mk.injEq]
      rfl
    · rw [channelTo_feedAt_other _ hf, ← hs w]
      simp only [hf, false_and, false_or]
      rfl
  · by_cases hsame : s.evaluatedState c = s.channels[c].state
    · rwa [evaluate_of_same hactive hsame]
    · rw [evaluate_of_moves hactive hsame hfires]
      refine emit_fed _ ?_
      by_cases hf : f = .channel c
      · subst hf
        have hlockout : ¬s.evaluatedState c = .lockout := by
          unfold State.evaluatedState
          rw [nextChannelState_eq]
          repeat' split
          all_goals simp
        have hidle : ¬(s.channelTo c (s.evaluatedState c)).channels[c].isActive := by
          rw [channelTo_channel]
          exact not_or.mpr ⟨hfires, hlockout⟩
        refine fed_congr (s := s) (fun _ => Iff.rfl) ?_ hs
        rw [feedAt_channel, feedAt_channel, decide_eq_false hidle, decide_eq_false hactive]
        rfl
      · exact fed_congr (s := s) (fun _ => Iff.rfl) (channelTo_feedAt_other _ hf) hs

theorem modChannel_evaluate_fed {h : Fin 96} {c : Fin 8} {g : Channel → Channel} {f : Feeder}
    (hg : (g s.channels[c]).state = s.channels[c].state) (hs : s.fed h f) : ((s.modChannel c g).evaluate c).fed h f :=
  evaluate_fed c (fed_congr (s := s) (fun _ => Iff.rfl) (modChannel_feedAt hg f) hs)

theorem setVoters_fed {h : Fin 96} {f : Feeder} (c : Fin 8) (l : List Voter) (hs : s.fed h f) :
    (s.setVoters c l).fed h f := by
  unfold State.setVoters
  dsimp only
  split
  · exact modChannel_evaluate_fed rfl hs
  · exact fed_congr (s := s) (fun _ => Iff.rfl) (modChannel_feedAt rfl f) hs

theorem publishVotes_fed {h : Fin 96} {f : Feeder} (p : Fin 256) (hs : s.fed h f) : (s.publishVotes p).fed h f :=
  forEach_keeps (P := fun u => u.fed h f) _ s (fun c _ u hu => by
    split <;> exact setVoters_fed c _ hu) hs

theorem takePermit_fed {h : Fin 96} {f : Feeder} (c : Fin 8) (hs : s.fed h f) : (s.takePermit c).fed h f := by
  unfold State.takePermit
  dsimp only
  split
  · exact hs
  · exact modChannel_evaluate_fed rfl hs

theorem publishPermits_fed {h : Fin 96} {f : Feeder} (hs : s.fed h f) : s.publishPermits.fed h f :=
  forEach_keeps (P := fun u => u.fed h f) _ s (fun c _ _ hu => takePermit_fed c hu) hs

/-- An accepted reset takes the channel's feeder out of its window (R95). -/
theorem acceptReset_fed {h : Fin 96} {f : Feeder} {c : Fin 8} (hlocked : s.channels[c].state = .lockout)
    (hbelow : s.channels[c].count < s.tables.trip[c].required) (hs : s.fed h f) : (s.acceptReset c).fed h f := by
  unfold State.acceptReset
  dsimp only
  rw [nextChannelState_eq, if_pos hbelow]
  generalize hst : (if s.channels[c].permit = false then ChannelState.disarmed else .ready) = st
  have hidle : ¬(st = .firing ∨ st = .lockout) := by
    rw [← hst]
    split <;> simp
  intro w
  rw [feedAt_of_windows ((deactivateAt_view _ _ _).trans (emit_view _ _)) f, feedsIn_deactivateAt, emit_sameMember]
  by_cases hf : f = .channel c
  · subst hf
    have hself : ((s.writeLockout c false).modChannel c fun v => { v with state := st }).channels[c] =
        { s.channels[c] with state := st } := upd_self _ _ _
    have hmem : s.feedsIn (.channel c) w ↔ s.tables.trip[c].window = some w := by
      rw [hs w, feedAt_channel, decide_eq_true (.inr hlocked)]
      simp
    rw [feedAt_channel, hself, decide_eq_false hidle]
    simp only [Prod.mk.injEq, Bool.false_eq_true, false_and, iff_false, true_and, not_and, not_not]
    rw [emit_tables]
    exact fun h => hmem.mp h
  · have hother : ((s.writeLockout c false).modChannel c fun v => { v with state := st }).feedAt h f = s.feedAt h f := by
      cases f with
      | point => rfl
      | health => rfl
      | channel d =>
        have hne : d ≠ c := fun heq => hf (heq ▸ rfl)
        have hchannel : ((s.writeLockout c false).modChannel c fun v => { v with state := st }).channels[d] =
            s.channels[d] := upd_ne _ _ (Ne.symm hne)
        rw [feedAt_channel, feedAt_channel, hchannel]
        rfl
    rw [hother, ← hs w]
    simp only [hf, false_and, not_false_eq_true, and_true]
    rfl

/-- A channel whose pulse ends stays active (R91). -/
theorem endPulse_fed {h : Fin 96} {f : Feeder} {c : Fin 8} (hfiring : s.channels[c].state = .firing) (hs : s.fed h f) :
    (s.endPulse c).fed h f := by
  unfold State.endPulse
  dsimp only
  refine emit_fed _ (fed_congr (s := s) (fun _ => Iff.rfl) ?_ hs)
  cases f with
  | point => rfl
  | health => rfl
  | channel d =>
    show (s.modChannel c fun v => { v with state := .lockout, pulse := .stopped }).feedAt h (.channel d) = _
    by_cases heq : d = c
    · subst heq
      have hself : (s.modChannel d fun v => { v with state := .lockout, pulse := .stopped }).channels[d] =
          { s.channels[d] with state := .lockout, pulse := .stopped } := upd_self _ _ _
      rw [feedAt_channel, feedAt_channel, hself, decide_eq_true (.inr rfl), decide_eq_true (.inl hfiring)]
      rfl
    · have hother : (s.modChannel c fun v => { v with state := .lockout, pulse := .stopped }).channels[d] =
          s.channels[d] := upd_ne _ _ (Ne.symm heq)
      rw [feedAt_channel, feedAt_channel, hother]
      rfl

theorem writeTrip_fed {h : Fin 96} {f : Feeder} {c : Fin 8} {r : TripRecord} (hidle : ¬s.channels[c].isActive)
    (hs : s.fed h f) : (s.writeTrip c r).fed h f := by
  rw [writeTrip_eq]
  refine evaluate_fed c ?_
  by_cases hf : f = .channel c
  · subst hf
    intro w
    have hnone : ¬s.feedsIn (.channel c) w := not_feedsIn hs (by simpa [State.feedAt] using hidle) w
    have hidle' : ¬(s.withTripRecord c r).channels[c].isActive := by rwa [Channel.isActive, withTripRecord_state]
    rw [feedAt_channel, decide_eq_false hidle']
    exact ⟨fun h => absurd h hnone, fun h => by cases h⟩
  · refine fed_congr (s := s) (fun _ => Iff.rfl) ((modChannel_feedAt (by rfl) f).trans ?_) hs
    cases f with
    | point => rfl
    | health => rfl
    | channel d =>
      have hne : d ≠ c := fun heq => hf (heq ▸ rfl)
      have hrecord : (upd s.tables.trip c fun _ => r)[d] = s.tables.trip[d] := upd_ne _ _ (Ne.symm hne)
      rw [feedAt_channel, feedAt_channel]
      unfold State.modTables
      dsimp only
      rw [hrecord]

/-! ## Points (R20) -/

/-- A point stands in the windows that it fed when its feeder's activity was `was`. -/
def State.heldBy (s : State) (p : Fin 256) (was : Bool) : Prop :=
  ∀ w, s.feedsIn (.point p) w ↔ was = true ∧ s.tables.point[p].window = some w

theorem heldBy_of_fed {h : Fin 96} {p : Fin 256} (hs : s.fed h (.point p)) : s.heldBy p (s.feederActive p) := fun w =>
  (hs w).trans Prod.mk_inj

theorem fed_of_heldBy {h : Fin 96} {p : Fin 256} (hs : s.heldBy p (s.feederActive p)) : s.fed h (.point p) := fun w =>
  (hs w).trans Prod.mk_inj.symm

/-- The change of a feeder, at every other feeder. -/
theorem publishFeeder_fed_other {h : Fin 96} {f : Feeder} {p : Fin 256} (was : Bool) (stamp : Stamp)
    (hf : f ≠ .point p) (hs : s.fed h f) : (s.publishFeeder p was stamp).fed h f := by
  refine fed_congr (s := s) (fun w => ?_) (feedAt_of_groups (publishFeeder_view s p was stamp) f) hs
  unfold State.publishFeeder
  dsimp only
  split
  · rw [arriveAt_sameMember, feedsIn_activateAt]
    simp [hf]
  · split
    · rw [feedsIn_deactivateAt]
      simp [hf]
    · exact Iff.rfl

/-- The change of a feeder, at the feeder itself (R20). -/
theorem publishFeeder_fed_own {h : Fin 96} {p : Fin 256} {was : Bool} (stamp : Stamp) (hs : s.heldBy p was) :
    (s.publishFeeder p was stamp).fed h (.point p) := by
  intro w
  rw [feedAt_of_groups (publishFeeder_view s p was stamp)]
  unfold State.feedAt
  rw [Prod.mk_inj]
  unfold State.publishFeeder
  dsimp only
  split
  next hbegins =>
    obtain ⟨hnow, hwas⟩ := Bool.and_eq_true_iff.mp hbegins
    have hwas : was = false := by simpa using hwas
    rw [arriveAt_sameMember, feedsIn_activateAt, hs w, hwas, hnow]
    simp
  next hno =>
    split
    next hends =>
      obtain ⟨hwas, hnow⟩ := Bool.and_eq_true_iff.mp hends
      have hnow : s.feederActive p = false := by simpa using hnow
      rw [feedsIn_deactivateAt, hs w, hwas, hnow]
      simp
    next hno' =>
      have hsame : was = s.feederActive p := by
        cases was <;> cases hnow : s.feederActive p <;> simp_all
      rw [hs w, hsame]

/-- A part that is right but for one point's feeder, which it publishes with its votes. -/
theorem publish_fed {u : State} {h : Fin 96} {p : Fin 256} {was : Bool} (stamp : Stamp) (hown : u.heldBy p was)
    (hother : ∀ f, f ≠ .point p → u.fed h f) (f : Feeder) : ((u.publishFeeder p was stamp).publishVotes p).fed h f := by
  refine publishVotes_fed p ?_
  by_cases hf : f = .point p
  · subst hf
    exact publishFeeder_fed_own stamp hown
  · exact publishFeeder_fed_other was stamp hf (hother f hf)

/-- A change of one point, its record and its state, leaves what the other feeders are judged by. -/
theorem feedAt_of_point {u : State} {h : Fin 96} {p : Fin 256} {f : Feeder} (hf : f ≠ .point p)
    (hpoints : ∀ q, q ≠ p → u.points[q] = s.points[q]) (hrecords : ∀ q, q ≠ p → u.tables.point[q] = s.tables.point[q])
    (hmode : u.mode = s.mode) (hchannels : u.channels = s.channels) (htrip : u.tables.trip = s.tables.trip)
    (hhealth : u.health = s.health) : u.feedAt h f = s.feedAt h f := by
  cases f with
  | point q =>
    have hne : q ≠ p := fun heq => hf (heq ▸ rfl)
    unfold State.feedAt State.feederActive State.inhibited
    dsimp only
    rw [hpoints q hne, hrecords q hne, hmode]
  | channel c =>
    rw [feedAt_channel, feedAt_channel, hchannels, htrip]
  | health =>
    unfold State.feedAt
    dsimp only
    rw [hhealth]

theorem changePoint_fed {h : Fin 96} (p : Fin 256) (g : Point → Point) (hs : ∀ f, s.fed h f) (f : Feeder) :
    (s.changePoint p g).fed h f := by
  have hown : (s.modPoint p g).heldBy p (s.feederActive p) := fun w => heldBy_of_fed (hs (.point p)) w
  have hother : ∀ f, f ≠ .point p → (s.modPoint p g).fed h f := fun f hf =>
    fed_congr (s := s) (fun _ => Iff.rfl)
      (feedAt_of_point hf (fun _ hne => upd_ne _ _ (Ne.symm hne)) (fun _ _ => rfl) rfl rfl rfl rfl) (hs f)
  exact publish_fed _ hown hother f

theorem serviceOut_fed {h : Fin 96} (p : Fin 256) (hs : ∀ f, s.fed h f) (f : Feeder) : (s.serviceOut p).fed h f := by
  cases hsv : s.tables.point[p].service with
  | out =>
    rw [serviceOut_of_out hsv]
    exact hs f
  | inn =>
    rw [serviceOut_of_in hsv]
    have hemit : ∀ f, (s.emit (.service p .out)).fed h f := fun f => emit_fed _ (hs f)
    generalize s.emit (.service p .out) = u at hemit
    refine publish_fed (u := u.takenOut p) _ (fun w => ?_) (fun f hf => ?_) f
    · refine (heldBy_of_fed (hemit (.point p)) w).trans (and_congr_right fun _ => ?_)
      have hwindow : (u.takenOut p).tables.point[p].window = u.tables.point[p].window :=
        (congrArg PointRecord.window (setService_record _ p .out) :)
      rw [hwindow]
    · exact fed_congr (s := u) (fun _ => Iff.rfl) (feedAt_of_point hf (fun _ hne => upd_ne _ _ (Ne.symm hne))
        (fun _ hne => upd_ne _ _ (Ne.symm hne)) rfl rfl rfl rfl) (hemit f)

/-- An OUT point's feeder is inactive (R20). -/
theorem feederActive_of_out {p : Fin 256} (h : s.tables.point[p].service = .out) : s.feederActive p = false := by
  unfold State.feederActive
  rw [h]
  rfl

theorem serviceIn_fed {h : Fin 96} (p : Fin 256) (hs : ∀ f, s.fed h f) (f : Feeder) : (s.serviceIn p).fed h f := by
  cases hsv : s.tables.point[p].service with
  | inn =>
    rw [serviceIn_of_in hsv]
    exact hs f
  | out =>
    rw [serviceIn_of_out hsv]
    have hemit : ∀ f, (s.emit (.service p .inn)).fed h f := fun f => emit_fed _ (hs f)
    have hout : (s.emit (.service p .inn)).tables.point[p].service = .out := by rwa [emit_tables]
    generalize s.emit (.service p .inn) = u at hemit hout
    refine publish_fed (u := u.takenIn p) _ (fun w => ?_) (fun f hf => ?_) f
    · have hheld := heldBy_of_fed (hemit (.point p)) w
      rw [feederActive_of_out hout] at hheld
      refine hheld.trans ?_
      simp
    · exact fed_congr (s := u) (fun _ => Iff.rfl) (feedAt_of_point hf (fun _ hne => upd_ne _ _ (Ne.symm hne))
        (fun _ hne => upd_ne _ _ (Ne.symm hne)) rfl rfl rfl rfl) (hemit f)

/-- A change of an OUT point, or of its record while it stays OUT. -/
theorem fed_out {u : State} {h : Fin 96} {p : Fin 256} (hout : s.tables.point[p].service = .out)
    (hout' : u.tables.point[p].service = .out) (hmember : s.sameMember u (.point p)) (hs : s.fed h (.point p)) :
    u.fed h (.point p) := by
  have hnone := not_feedsIn hs (feederActive_of_out hout)
  intro w
  unfold State.feedAt
  rw [Prod.mk_inj, feederActive_of_out hout', hmember w]
  exact ⟨fun h => absurd h (hnone w), fun h => by cases h.1⟩

/-! ## The mode (R33) -/

/-- Whether a point's feeder was active under a tracker before (R33). -/
def State.activeUnder (s : State) (old : ModeTracker) (p : Fin 256) : Bool := { s with mode := old }.feederActive p

theorem evaluate_sameMember {c : Fin 8} {f : Feeder} (hf : f ≠ .channel c) : s.sameMember (s.evaluate c) f := by
  intro w
  by_cases hactive : s.channels[c].isActive
  · rw [evaluate_of_active hactive]
  by_cases hfires : s.evaluatedState c = .firing
  · rw [evaluate_of_fires hactive hfires, feedsIn_activateAt, emit_sameMember]
    simp only [hf, false_and, false_or]
    rfl
  · by_cases hsame : s.evaluatedState c = s.channels[c].state
    · rw [evaluate_of_same hactive hsame]
    · rw [evaluate_of_moves hactive hsame hfires, emit_sameMember]
      rfl

theorem publishPermits_sameMember {f : Feeder} (hf : ∀ c, f ≠ .channel c) : s.sameMember s.publishPermits f := by
  refine forEach_keeps (P := fun u => s.sameMember u f) _ s (fun c _ u hu w => ?_) fun _ => Iff.rfl
  refine Iff.trans ?_ (hu w)
  unfold State.takePermit
  dsimp only
  split
  · exact Iff.rfl
  · exact evaluate_sameMember (hf c) w

theorem publishInhibition_sameMember {old : ModeTracker} {p : Fin 256} {f : Feeder} (hf : f ≠ .point p) :
    s.sameMember (s.publishInhibition old p) f := by
  intro w
  unfold State.publishInhibition
  dsimp only
  split
  · exact Iff.rfl
  · split
    · rw [feedsIn_deactivateAt]
      simp [hf]
    · rw [arriveAt_sameMember, feedsIn_activateAt]
      simp [hf]

/-- A point's change of inhibition brings its feeder to what the new tracker says (R20, R33). -/
theorem publishInhibition_fed {h : Fin 96} {old : ModeTracker} {p : Fin 256} (hs : s.heldBy p (s.activeUnder old p)) :
    (s.publishInhibition old p).fed h (.point p) := by
  intro w
  rw [feedAt_of_groups (publishInhibition_view s old p)]
  unfold State.feedAt
  rw [Prod.mk_inj]
  have hold := hs w
  unfold State.activeUnder State.feederActive State.inhibited at hold
  dsimp only at hold
  unfold State.publishInhibition State.feederActive State.inhibited
  dsimp only
  generalize old.inhibits s.tables.point[p].inhibit = before at hold
  generalize s.mode.inhibits s.tables.point[p].inhibit = after
  split
  next hquiet =>
    rw [hold]
    have hsame : before = after ∨ s.tables.point[p].service = .out ∨ alarmed s.points[p].condition = false := by
      simpa [or_assoc] using hquiet
    rcases hsame with rfl | hout | hcalm
    · rfl
    · simp only [hout]
      simp
    · simp only [hcalm]
      simp
  next hmoves =>
    have hmoves : (before ≠ after ∧ s.tables.point[p].service ≠ .out) ∧ alarmed s.points[p].condition = true := by
      simpa [not_or] using hmoves
    obtain ⟨⟨hne, hnot⟩, halarmed⟩ := hmoves
    have hin : s.tables.point[p].service = .inn := by
      cases hsv : s.tables.point[p].service with
      | inn => rfl
      | out => exact absurd hsv hnot
    split
    next hafter =>
      have hbefore : before = false := by
        cases before
        · rfl
        · exact absurd hafter.symm hne
      rw [feedsIn_deactivateAt, hold, hbefore, hafter]
      simp
    next hafter =>
      have hafter : after = false := by simpa using hafter
      have hbefore : before = true := by
        cases before
        · exact absurd hafter.symm hne
        · rfl
      rw [arriveAt_sameMember, feedsIn_activateAt, hold, hbefore, hafter, hin, halarmed]
      simp

/-- The tracker's new state and its MODE record, before the permits and the inhibitions (R37). -/
def State.modeRecorded (s : State) (m : ModeTracker) : State :=
  if m.effective = s.mode.effective then { s with mode := m } else ({ s with mode := m } : State).emit (.mode m.effective)

/-- And the permits behind it (R34). -/
def State.modePermitted (s : State) (m : ModeTracker) : State :=
  if m.permitMode = s.mode.permitMode then s.modeRecorded m else (s.modeRecorded m).publishPermits

theorem takeMode_eq (s : State) (m : ModeTracker) :
    s.takeMode m = forEach (ascending 256) (fun p u => u.publishInhibition s.mode p) (s.modePermitted m) := rfl

/-- A part whose points still stand as the tracker `old` gave, every other feeder being right. -/
structure Turning (h : Fin 96) (old : ModeTracker) (s : State) : Prop where
  held : ∀ p, s.heldBy p (s.activeUnder old p)
  other : ∀ f, (∀ p, f ≠ .point p) → s.fed h f

/-- What the points' old activity is judged by. -/
theorem activeUnder_of_windows {old : ModeTracker} (h : t.offWindows = s.offWindows) (p : Fin 256) :
    t.activeUnder old p = s.activeUnder old p := (congrArg (fun x : State => x.activeUnder old p) h :)

theorem activeUnder_of_trips {old : ModeTracker} (h : t.offTrips = s.offTrips) (p : Fin 256) :
    t.activeUnder old p = s.activeUnder old p := (congrArg (fun x : State => x.activeUnder old p) h :)

theorem activeUnder_of_groups {old : ModeTracker} (h : t.offGroups = s.offGroups) (p : Fin 256) :
    t.activeUnder old p = s.activeUnder old p := (congrArg (fun x : State => x.activeUnder old p) h :)

theorem heldBy_congr {p : Fin 256} {was was' : Bool} (hmember : s.sameMember t (.point p)) (hwas : was' = was)
    (htables : t.tables = s.tables) (hs : s.heldBy p was) : t.heldBy p was' := fun w => by
  rw [hmember, hwas, htables]
  exact hs w

theorem modeRecorded_turning {h : Fin 96} (m : ModeTracker) (hs : ∀ f, s.fed h f) :
    Turning h s.mode (s.modeRecorded m) := by
  have hbare : Turning h s.mode { s with mode := m } :=
    ⟨fun p => heldBy_of_fed (hs (.point p)), fun f hf => fed_congr (s := s) (fun _ => Iff.rfl) (by
      cases f with
      | point p => exact absurd rfl (hf p)
      | channel => rfl
      | health => rfl) (hs f)⟩
  unfold State.modeRecorded
  split
  · exact hbare
  · have hview := emit_view ({ s with mode := m } : State) (.mode m.effective)
    exact ⟨fun p => heldBy_congr (emit_sameMember _ _ _) (activeUnder_of_windows hview p) (tables_of_offWindows hview)
      (hbare.held p), fun f hf => emit_fed _ (hbare.other f hf)⟩

theorem publishPermits_turning {h : Fin 96} {old : ModeTracker} (hs : Turning h old s) : Turning h old s.publishPermits := by
  have hview := publishPermits_view s
  have htables : s.publishPermits.tables = s.tables := (congrArg State.tables hview :)
  exact ⟨fun p => heldBy_congr (publishPermits_sameMember fun c => by simp) (activeUnder_of_trips hview p) htables
    (hs.held p), fun f hf => publishPermits_fed (hs.other f hf)⟩

theorem modePermitted_turning {h : Fin 96} (m : ModeTracker) (hs : ∀ f, s.fed h f) :
    Turning h s.mode (s.modePermitted m) := by
  unfold State.modePermitted
  split
  · exact modeRecorded_turning m hs
  · exact publishPermits_turning (modeRecorded_turning m hs)

theorem publishInhibition_fed_other {h : Fin 96} {old : ModeTracker} {p : Fin 256} {f : Feeder} (hf : f ≠ .point p)
    (hs : s.fed h f) : (s.publishInhibition old p).fed h f :=
  fed_congr (publishInhibition_sameMember hf) (feedAt_of_groups (publishInhibition_view s old p) f) hs

theorem publishInhibition_heldBy_other {old : ModeTracker} {p q : Fin 256} (hne : q ≠ p)
    (hs : s.heldBy q (s.activeUnder old q)) :
    (s.publishInhibition old p).heldBy q ((s.publishInhibition old p).activeUnder old q) := by
  have hview := publishInhibition_view s old p
  have htables : (s.publishInhibition old p).tables = s.tables := (congrArg State.tables hview :)
  exact heldBy_congr (publishInhibition_sameMember (by simp [hne])) (activeUnder_of_groups hview q) htables hs

/-- The inhibitions of all points bring every feeder to what the new tracker says (R33). -/
theorem publishInhibitions_fed {h : Fin 96} {old : ModeTracker} (hs : Turning h old s) (f : Feeder) :
    (forEach (ascending 256) (fun p u => u.publishInhibition old p) s).fed h f := by
  have hother : (∀ p, f ≠ .point p) → (forEach (ascending 256) (fun p u => u.publishInhibition old p) s).fed h f :=
    fun hf => forEach_keeps (P := fun u => u.fed h f) _ s (fun p _ _ hu => publishInhibition_fed_other (hf p) hu)
      (hs.other f hf)
  cases f with
  | point p =>
    exact forEach_each (f := fun p u => u.publishInhibition old p) (P := fun p u => u.heldBy p (u.activeUnder old p))
      (Q := fun p u => u.fed h (.point p)) (fun _ _ hu => publishInhibition_fed hu)
      (fun _ _ _ hne hu => publishInhibition_heldBy_other hne hu)
      (fun _ _ _ hne hu => publishInhibition_fed_other (by simp [hne]) hu) s hs.held p
  | channel => exact hother fun p => by simp
  | health => exact hother fun p => by simp

theorem takeMode_fed {h : Fin 96} (m : ModeTracker) (hs : ∀ f, s.fed h f) (f : Feeder) : (s.takeMode m).fed h f := by
  rw [takeMode_eq]
  exact publishInhibitions_fed (modePermitted_turning m hs) f

/-! ## Health (R137) -/

theorem feedAt_of_health {h : Fin 96} {f : Feeder} (hf : f ≠ .health) (heq : t.offHealth = s.offHealth) :
    t.feedAt h f = s.feedAt h f := by
  cases f with
  | point p => exact (congrArg (fun u : State => u.feedAt h (.point p)) heq :)
  | channel c => exact (congrArg (fun u : State => u.feedAt h (.channel c)) heq :)
  | health => exact absurd rfl hf

theorem evaluateFeeder_sameMember {f : Feeder} (hf : f ≠ .health) : s.sameMember s.evaluateFeeder f := by
  intro w
  unfold State.evaluateFeeder
  dsimp only
  split
  · rw [feedsIn_activate]
    simp only [hf, false_and, false_or]
    rfl
  · split
    · rw [feedsIn_deactivate]
      simp only [hf, false_and, not_false_eq_true, and_true]
      rfl
    · exact Iff.rfl

/-- The health feeder's evaluation, toward the health window of the settings (R137). -/
theorem evaluateFeeder_fed {f : Feeder} (hs : s.fed s.tables.panel.healthWindow f) :
    s.evaluateFeeder.fed s.tables.panel.healthWindow f := by
  by_cases hf : f = .health
  · subst hf
    intro w
    have hold : s.feedsIn .health w ↔ s.health.feeder = true ∧ s.tables.panel.healthWindow = w :=
      (hs w).trans (by unfold State.feedAt; rw [Prod.mk_inj, Option.some_inj])
    have hnow : s.evaluateFeeder.health.feeder = s.unmaskedFlag := by rw [evaluateFeeder_health]
    unfold State.feedAt
    rw [Prod.mk_inj, Option.some_inj, hnow]
    unfold State.evaluateFeeder
    dsimp only
    split
    next hbegins =>
      obtain ⟨hset, hwas⟩ := Bool.and_eq_true_iff.mp hbegins
      have hwas : s.health.feeder = false := by simpa using hwas
      have hnone : ¬s.feedsIn .health w := by simp [hold, hwas]
      rw [feedsIn_activate, hset]
      simp only [true_and, or_iff_left_iff_imp]
      exact fun h => absurd h hnone
    next hno =>
      split
      next hends =>
        obtain ⟨hwas, hclear⟩ := Bool.and_eq_true_iff.mp hends
        have hclear : s.unmaskedFlag = false := by simpa using hclear
        rw [feedsIn_deactivate, hclear]
        simp only [true_and, Bool.false_eq_true, false_and, iff_false, not_and, not_not]
        exact fun h => (hold.mp h).2
      next hno' =>
        have hsame : s.health.feeder = s.unmaskedFlag := by
          cases hw : s.health.feeder <;> cases hn : s.unmaskedFlag <;> simp_all
        rw [← hsame]
        exact hold
  · exact fed_congr (evaluateFeeder_sameMember hf) (feedAt_of_health hf (evaluateFeeder_view s)) hs

/-- The health feeder stands for the unmasked flags that are SET. -/
def State.healthRight (s : State) : Prop := s.health.feeder = s.unmaskedFlag

theorem healthRight_congr (hhealth : t.health = s.health) (hmasks : t.tables.panel.healthMasks = s.tables.panel.healthMasks)
    (hs : s.healthRight) : t.healthRight := by
  unfold State.healthRight State.unmaskedFlag
  rw [hhealth, hmasks]
  exact hs

theorem evaluateFeeder_tables (s : State) : s.evaluateFeeder.tables = s.tables :=
  (congrArg State.tables (evaluateFeeder_view s) :)

theorem evaluateFeeder_healthRight (s : State) : s.evaluateFeeder.healthRight := by
  unfold State.healthRight State.unmaskedFlag
  rw [evaluateFeeder_health, evaluateFeeder_tables]
  rfl

/-- A record in the flags, before the health feeder is evaluated. -/
theorem withFlags_fed {h : Fin 96} {f : Feeder} (flags : HealthSet) (b : ReportBody) (hs : s.fed h f) :
    (({ s with health := { s.health with flags := flags } } : State).emit b).fed h f := by
  refine emit_fed b (fed_congr (s := s) (fun _ => Iff.rfl) ?_ hs)
  cases f <;> rfl

theorem raiseFlag_fed {h : Fin 96} {f : Feeder} (n : Fin 11) (hs : s.fed h f) : (s.raiseFlag n).fed h f := by
  unfold State.raiseFlag
  split
  · exact hs
  · exact withFlags_fed _ _ hs

theorem clearFlag_fed {h : Fin 96} {f : Feeder} (n : Fin 11) (hs : s.fed h f) : (s.clearFlag n).fed h f := by
  unfold State.clearFlag
  split
  · exact withFlags_fed _ _ hs
  · exact hs

end Sys2Proof.Machine
end

section
/-! Settles O9, continued: the acts, the end of a reset, and time (R20, R41, R42, R98, R137). -/

namespace Sys2Proof.Machine

variable {s t : State}

/-! ## What the health feeder is judged by -/

/-- The health feeder's activity, the flags, their masks and the health window. -/
def State.healthSide (s : State) : Bool × HealthSet × HealthSet × Fin 96 :=
  (s.health.feeder, s.health.flags, s.tables.panel.healthMasks, s.tables.panel.healthWindow)

theorem healthSide_of_publish (h : t.offPublish = s.offPublish) : t.healthSide = s.healthSide :=
  (congrArg State.healthSide h :)

theorem healthSide_of_trips (h : t.offTrips = s.offTrips) : t.healthSide = s.healthSide :=
  healthSide_of_publish (offPublish_of_trips h)

theorem healthSide_of_groups (h : t.offGroups = s.offGroups) : t.healthSide = s.healthSide :=
  healthSide_of_publish (offPublish_of_groups h)

theorem healthSide_of_windows (h : t.offWindows = s.offWindows) : t.healthSide = s.healthSide :=
  healthSide_of_groups (offGroups_of h)

theorem healthWindow_of_side (h : t.healthSide = s.healthSide) :
    t.tables.panel.healthWindow = s.tables.panel.healthWindow := congrArg (fun x => x.2.2.2) h

theorem healthRight_of_side (h : t.healthSide = s.healthSide) (hs : s.healthRight) : t.healthRight := by
  obtain ⟨hfeeder, hflags, hmasks, -⟩ : _ ∧ _ ∧ _ ∧ _ := by simpa only [State.healthSide, Prod.mk.injEq] using h
  unfold State.healthRight State.unmaskedFlag
  rw [hfeeder, hflags, hmasks]
  exact hs

/-- Every feeder stands where it feeds, and the health feeder is active while an unmasked flag is SET. -/
structure State.feedRight (s : State) : Prop where
  fed : ∀ f, s.fed s.tables.panel.healthWindow f
  health : s.healthRight

/-- What leaves the health side alone and every feeder in its place. -/
theorem feedRight_of_fed (hside : t.healthSide = s.healthSide)
    (hfed : ∀ h : Fin 96, (∀ f, s.fed h f) → ∀ f, t.fed h f) (hs : s.feedRight) : t.feedRight := by
  refine ⟨?_, healthRight_of_side hside hs.health⟩
  rw [healthWindow_of_side hside]
  exact hfed _ hs.fed

/-! ## The acts of windows and groups -/

theorem modWindow_sameMember {w : Fin 96} {g : Window → Window} (hg : ∀ v, (g v).feeders = v.feeders) (f : Feeder) :
    s.sameMember (s.modWindow w g) f := by
  refine sameMember_of_feeders fun v => (congrArg Window.feeders (upd_get s.windows w v g)).trans ?_
  split
  next heq => rw [hg, heq]
  next => rfl

theorem ackWindow_sameMember (s : State) (w : Fin 96) (f : Feeder) : s.sameMember (s.ackWindow w) f := by
  refine sameMember_of_feeders fun v => ?_
  rw [ackWindow_windows]
  split
  · rw [upd_get]
    split
    next heq => rw [heq]
    next => rfl
  · rfl

theorem resetWindow_sameMember (s : State) (w : Fin 96) (f : Feeder) : s.sameMember (s.resetWindow w) f := by
  refine sameMember_of_feeders fun v => ?_
  rw [resetWindow_windows]
  split
  · rw [upd_get]
    split
    next heq => rw [heq]
    next => rfl
  · rfl

theorem resetGroup_sameMember (s : State) (g : Fin 8) (f : Feeder) : s.sameMember (s.resetGroup g) f := by
  intro v
  unfold State.resetGroup
  rw [emit_sameMember]
  cases s.groups[g].marker with
  | none => exact Iff.rfl
  | some w => exact modWindow_sameMember (g := fun v => { v with markers := dropFromSet v.markers g.val }) (fun _ => rfl) f v

theorem freezeGroup_sameMember (s : State) (g : Fin 8) (f : Feeder) : s.sameMember (s.freezeGroup g) f := by
  intro v
  unfold State.freezeGroup
  dsimp only
  rw [emit_sameMember]
  split
  · exact Iff.rfl
  · exact modWindow_sameMember (g := fun v => { v with markers := addToSet v.markers g.val }) (fun _ => rfl) f v

/-- What moves no member of a feeder set, and nothing of channels, points, tracker and health. -/
theorem feedRight_of_groups (hmember : ∀ f, s.sameMember t f) (h : t.offGroups = s.offGroups) (hs : s.feedRight) :
    t.feedRight :=
  feedRight_of_fed (healthSide_of_groups h) (fun _ hfed f => fed_congr (hmember f) (feedAt_of_groups h f) (hfed f)) hs

theorem feedAt_modTables_window {h w : Fin 96} {r : WindowRecord} (f : Feeder) :
    (s.modTables fun t => { t with window := upd t.window w fun _ => r }).feedAt h f = s.feedAt h f := by
  cases f <;> rfl

theorem feedAt_modTables_group {h : Fin 96} {g : Fin 8} {r : GroupRecord} (f : Feeder) :
    (s.modTables fun t => { t with group := upd t.group g fun _ => r }).feedAt h f = s.feedAt h f := by
  cases f <;> rfl

theorem writeWindow_feedRight (w : Fin 96) (r : WindowRecord) (hs : s.feedRight) : (s.writeWindow w r).feedRight := by
  have hwritten : (s.modTables fun t => { t with window := upd t.window w fun _ => r }).feedRight :=
    feedRight_of_fed (s := s) rfl (fun _ hfed f => fed_congr (fun _ => Iff.rfl) (feedAt_modTables_window f) (hfed f)) hs
  unfold State.writeWindow
  dsimp only
  split
  · exact feedRight_of_groups (fun f => sameMember_of_feeders fun v => by rw [hornCheck_windows])
      (offGroups_of (hornCheck_view _)) hwritten
  · exact hwritten

theorem writeGroup_feedRight (g : Fin 8) (r : GroupRecord) (hs : s.feedRight) : (s.writeGroup g r).feedRight := by
  have hwritten : (s.modTables fun t => { t with group := upd t.group g fun _ => r }).feedRight :=
    feedRight_of_fed (s := s) rfl (fun _ hfed f => fed_congr (fun _ => Iff.rfl) (feedAt_modTables_group f) (hfed f)) hs
  unfold State.writeGroup
  dsimp only
  split
  · exact feedRight_of_groups (resetGroup_sameMember _ g) (resetGroup_view _ g) hwritten
  · exact hwritten

/-! ## The acts of points, channels and the tracker -/

theorem serviceOut_healthSide (s : State) (p : Fin 256) : (s.serviceOut p).healthSide = s.healthSide := by
  cases hsv : s.tables.point[p].service with
  | out => rw [serviceOut_of_out hsv]
  | inn =>
    rw [serviceOut_of_in hsv]
    exact (healthSide_of_publish (publish_view _ _ _ _)).trans
      ((rfl : _ = (s.emit (.service p .out)).healthSide).trans (healthSide_of_windows (emit_view _ _)))

theorem serviceIn_healthSide (s : State) (p : Fin 256) : (s.serviceIn p).healthSide = s.healthSide := by
  cases hsv : s.tables.point[p].service with
  | inn => rw [serviceIn_of_in hsv]
  | out =>
    rw [serviceIn_of_out hsv]
    exact (healthSide_of_publish (publish_view _ _ _ _)).trans
      ((rfl : _ = (s.emit (.service p .inn)).healthSide).trans (healthSide_of_windows (emit_view _ _)))

theorem changePoint_healthSide (s : State) (p : Fin 256) (f : Point → Point) :
    (s.changePoint p f).healthSide = s.healthSide := (healthSide_of_publish (changePoint_view s p f)).trans rfl

theorem takeMode_healthSide (s : State) (m : ModeTracker) : (s.takeMode m).healthSide = s.healthSide :=
  (healthSide_of_publish (takeMode_view s m)).trans rfl

theorem writeTrip_healthSide (s : State) (c : Fin 8) (r : TripRecord) : (s.writeTrip c r).healthSide = s.healthSide := by
  rw [writeTrip_eq]
  exact (healthSide_of_trips (evaluate_view _ c)).trans rfl

/-- What a point's feeder is judged by. -/
theorem feedAt_point_congr {h : Fin 96} {p : Fin 256} (hcondition : t.points[p].condition = s.points[p].condition)
    (hrecord : t.tables.point[p] = s.tables.point[p]) (hinhibited : t.inhibited p = s.inhibited p) :
    t.feedAt h (.point p) = s.feedAt h (.point p) := by
  unfold State.feedAt State.feederActive
  dsimp only
  rw [hcondition, hrecord, hinhibited]

theorem applyChanges_feedRight (b : ScanChangeBody) (doubted : List (Fin 256)) (hs : s.feedRight) :
    (s.applyChanges b doubted).feedRight := by
  refine applyChanges_keeps (R := fun s t => s.feedRight → t.feedRight) (fun _ => id) (fun h h' => h' ∘ h)
    (fun s p raw stamp => feedRight_of_fed (changePoint_healthSide s p _) fun _ hfed => changePoint_fed p _ hfed)
    (fun s p => feedRight_of_fed (s := s) rfl fun h hfed f => ?_)
    (fun s p => feedRight_of_fed (healthSide_of_trips (publishVotes_view s p)) fun _ hfed f => publishVotes_fed p (hfed f))
    s b doubted hs
  refine fed_congr (s := s) (fun _ => Iff.rfl) ?_ (hfed f)
  cases f with
  | channel => rfl
  | health => rfl
  | point q =>
    have hcondition : (s.modPoint p fun v => { v with quality := v.quality.gapped }).points[q].condition =
        s.points[q].condition := by
      refine (congrArg Point.condition (upd_get s.points p q fun v => { v with quality := v.quality.gapped })).trans ?_
      split
      next heq => rw [heq]
      next => rfl
    exact feedAt_point_congr hcondition rfl rfl

/-! ## A PANEL write (R30, R42, R137) -/

/-- The move of an active health feeder to another window (R42). -/
theorem moveHealth_fed {v w : Fin 96} (hactive : s.health.feeder = true) (hs : ∀ f, s.fed v f) (f : Feeder) :
    ((s.deactivate v .health).activate w .health).fed w f := by
  have hview : ((s.deactivate v .health).activate w .health).offWindows = s.offWindows :=
    (activate_view _ w .health).trans (deactivate_view s v .health)
  intro x
  rw [feedAt_of_windows hview, feedsIn_activate, feedsIn_deactivate, hs f x]
  by_cases hf : f = .health
  · subst hf
    unfold State.feedAt
    rw [hactive]
    simp
  · have hwindow : s.feedAt w f = s.feedAt v f := by
      cases f with
      | health => exact absurd rfl hf
      | _ => rfl
    rw [hwindow]
    simp [hf]

/-- An inactive health feeder stands nowhere, whatever its window. -/
theorem fed_window_of_idle {v w : Fin 96} (hidle : s.health.feeder = false) (hs : ∀ f, s.fed v f) (f : Feeder) :
    s.fed w f := by
  cases f with
  | health =>
    intro x
    rw [hs .health x]
    unfold State.feedAt
    rw [hidle]
    simp
  | _ => exact hs _

theorem withHealthWindow_fed {h w : Fin 96} {f : Feeder} (hs : s.fed h f) : (s.withHealthWindow w).fed h f :=
  fed_congr (s := s) (fun _ => Iff.rfl) (by cases f <;> rfl) hs

theorem maskEffects_fed {before : Panel} (hs : ∀ f, s.fed before.healthWindow f) (f : Feeder) :
    (s.maskEffects before).fed before.healthWindow f := by
  unfold State.maskEffects
  refine withHealthWindow_fed ?_
  split
  · exact withHealthWindow_fed (hs f)
  · exact evaluateFeeder_fed (s := s.withHealthWindow before.healthWindow) (withHealthWindow_fed (hs f))

theorem maskEffects_healthRight {before : Panel}
    (hs : before.healthMasks = s.tables.panel.healthMasks → s.healthRight) : (s.maskEffects before).healthRight := by
  unfold State.maskEffects
  refine healthRight_congr (s := if before.healthMasks = (s.withHealthWindow before.healthWindow).tables.panel.healthMasks
    then s.withHealthWindow before.healthWindow else (s.withHealthWindow before.healthWindow).evaluateFeeder) rfl rfl ?_
  split
  next hsame => exact healthRight_congr (s := s) rfl rfl (hs hsame)
  next => exact evaluateFeeder_healthRight _

theorem maskEffects_window (s : State) (before : Panel) :
    (s.maskEffects before).tables.panel.healthWindow = s.tables.panel.healthWindow := rfl

theorem panelHealthEffects_feedRight {before : Panel} (hfed : ∀ f, s.fed before.healthWindow f)
    (hs : before.healthMasks = s.tables.panel.healthMasks → s.healthRight) : (s.panelHealthEffects before).feedRight := by
  have hmasked := maskEffects_fed hfed
  have hright := maskEffects_healthRight hs
  have hwindow := maskEffects_window s before
  rw [panelHealthEffects_eq]
  generalize s.maskEffects before = u at hmasked hright hwindow
  split
  next hstays =>
    refine ⟨fun f => ?_, hright⟩
    rw [hwindow]
    rcases Bool.or_eq_true_iff.mp hstays with hsame | hidle
    · rw [← of_decide_eq_true hsame]
      exact hmasked f
    · exact fed_window_of_idle (by simpa using hidle) hmasked f
  next hmoves =>
    have hactive : u.health.feeder = true := by
      cases hfeeder : u.health.feeder with
      | true => rfl
      | false => exact absurd (by rw [hfeeder]; simp) hmoves
    have hview : ((u.deactivate before.healthWindow .health).activate s.tables.panel.healthWindow .health).offWindows =
        u.offWindows := (activate_view _ _ _).trans (deactivate_view _ _ _)
    have hside := healthSide_of_windows hview
    refine ⟨fun f => ?_, healthRight_of_side hside hright⟩
    rw [healthWindow_of_side hside, hwindow]
    exact moveHealth_fed hactive hmasked f

/-- What the mode's part of a PANEL write keeps. -/
theorem panelModeEffects_feeders (s : State) (before : Panel) :
    (s.panelModeEffects before).healthSide = s.healthSide ∧
      ∀ h : Fin 96, (∀ f, s.fed h f) → ∀ f, (s.panelModeEffects before).fed h f :=
  panelModeEffects_keeps
    (R := fun s t => t.healthSide = s.healthSide ∧ ∀ h : Fin 96, (∀ f, s.fed h f) → ∀ f, t.fed h f)
    (fun _ => ⟨rfl, fun _ => id⟩) (fun h h' => ⟨h'.1.trans h.1, fun w hfed => h'.2 w (h.2 w hfed)⟩)
    (fun s m => ⟨takeMode_healthSide s m, fun _ hfed => takeMode_fed m hfed⟩)
    (fun s x => ⟨rfl, fun _ hfed f => fed_congr (s := s) (fun _ => Iff.rfl) (by cases f <;> rfl) (hfed f)⟩) s before

theorem writePanel_feedRight (p : Panel) (hs : s.feedRight) : (s.writePanel p).feedRight := by
  unfold State.writePanel
  dsimp only
  obtain ⟨hside, hfed⟩ := panelModeEffects_feeders (s.modTables fun t => { t with panel := p }) s.tables.panel
  refine panelHealthEffects_feedRight
    (hfed _ fun f => fed_congr (s := s) (fun _ => Iff.rfl) (by cases f <;> rfl) (hs.fed f)) fun hmasks => ?_
  have hmasked : p.healthMasks = s.tables.panel.healthMasks :=
    (congrArg (fun x => x.2.2.1) hside).symm.trans hmasks.symm
  exact healthRight_of_side hside (healthRight_congr (s := s) rfl hmasked hs.health)

/-! ## Flags (R135 to R137) -/

theorem evaluateFeeder_feedRight (hs : ∀ f, s.fed s.tables.panel.healthWindow f) : s.evaluateFeeder.feedRight := by
  refine ⟨fun f => ?_, evaluateFeeder_healthRight s⟩
  rw [evaluateFeeder_tables]
  exact evaluateFeeder_fed (hs f)

theorem raiseFlag_window (s : State) (n : Fin 11) :
    (s.raiseFlag n).tables.panel.healthWindow = s.tables.panel.healthWindow :=
  (congrArg (fun u : State => u.tables.panel.healthWindow) (raiseFlag_view s n) :)

theorem clearFlag_window (s : State) (n : Fin 11) :
    (s.clearFlag n).tables.panel.healthWindow = s.tables.panel.healthWindow :=
  (congrArg (fun u : State => u.tables.panel.healthWindow) (clearFlag_view s n) :)

theorem setFlag_feedRight (n : Fin 11) (hs : s.feedRight) : (s.setFlag n).feedRight := by
  unfold State.setFlag
  split
  · exact hs
  · refine evaluateFeeder_feedRight fun f => ?_
    rw [raiseFlag_window]
    exact raiseFlag_fed n (hs.fed f)

theorem clearAllHealth_feedRight (hs : s.feedRight) : s.clearAllHealth.feedRight := by
  unfold State.clearAllHealth
  dsimp only
  refine evaluateFeeder_feedRight ?_
  refine forEach_keeps (P := fun u => ∀ f, u.fed u.tables.panel.healthWindow f) _ _ (fun n _ u hu f => ?_) fun f =>
    fed_congr (s := s) (fun _ => Iff.rfl) (by cases f <;> rfl) (hs.fed f)
  rw [clearFlag_window]
  exact clearFlag_fed n (hu f)

/-! ## The acts -/

/-- A change of what feeders are not judged by. -/
theorem feedRight_of_aside (hside : t.healthSide = s.healthSide) (hwindows : t.windows = s.windows)
    (hfeed : ∀ (h : Fin 96) (f : Feeder), t.feedAt h f = s.feedAt h f) (hs : s.feedRight) : t.feedRight :=
  feedRight_of_fed hside (fun h hfed f =>
    fed_congr (sameMember_of_feeders fun w => by rw [hwindows]) (hfeed h f) (hfed f)) hs

theorem Act.feedRight (h : Act s t) (hs : s.feedRight) : t.feedRight := by
  cases h with
  | emit b => exact feedRight_of_groups (emit_sameMember s b) (offGroups_of (emit_view s b)) hs
  | sensing t ht =>
    exact feedRight_of_aside (by rw [ht]; rfl) (by rw [ht]) (fun h f => by rw [ht]; cases f <;> rfl) hs
  | ackWindow w => exact feedRight_of_groups (ackWindow_sameMember s w) (offGroups_of (ackWindow_view s w)) hs
  | resetWindow w => exact feedRight_of_groups (resetWindow_sameMember s w) (offGroups_of (resetWindow_view s w)) hs
  | silence =>
    unfold State.silenceHorn
    split
    · exact feedRight_of_aside (s := s) rfl rfl (fun h f => by cases f <;> rfl) hs
    · exact hs
  | writeWindow w r => exact writeWindow_feedRight w r hs
  | resetGroup g => exact feedRight_of_groups (resetGroup_sameMember s g) (resetGroup_view s g) hs
  | freezeGroup g => exact feedRight_of_groups (freezeGroup_sameMember s g) (freezeGroup_view s g) hs
  | writeGroup g r => exact writeGroup_feedRight g r hs
  | select => exact feedRight_of_aside (s := s) rfl rfl (fun h f => by cases f <;> rfl) hs
  | acceptReset c hlocked hbelow =>
    exact feedRight_of_fed (healthSide_of_trips (acceptReset_view s c))
      (fun _ hfed f => acceptReset_fed hlocked hbelow (hfed f)) hs
  | endPulse c hfiring =>
    exact feedRight_of_fed (healthSide_of_trips (endPulse_view s c)) (fun _ hfed f => endPulse_fed hfiring (hfed f)) hs
  | writeTrip c r _ _ hidle =>
    exact feedRight_of_fed (writeTrip_healthSide s c r) (fun _ hfed f => writeTrip_fed hidle (hfed f)) hs
  | changePoint p f =>
    exact feedRight_of_fed (changePoint_healthSide s p f) (fun _ hfed => changePoint_fed p f hfed) hs
  | remapPoint p g hout =>
    refine feedRight_of_fed (s := s) rfl (fun h hfed f => ?_) hs
    by_cases hf : f = .point p
    · subst hf
      exact fed_out hout hout (fun _ => Iff.rfl) (hfed _)
    · exact fed_congr (s := s) (fun _ => Iff.rfl) (feedAt_of_point hf (fun _ hne => upd_ne _ _ (Ne.symm hne))
        (fun _ _ => rfl) rfl rfl rfl rfl) (hfed f)
  | writePoint p r hout hr =>
    have hself : (upd s.tables.point p fun _ => r)[p] = r := upd_self _ _ _
    refine feedRight_of_fed (s := s) rfl (fun h hfed f => ?_) hs
    by_cases hf : f = .point p
    · subst hf
      exact fed_out hout ((congrArg PointRecord.service hself).trans hr) (fun _ => Iff.rfl) (hfed _)
    · exact fed_congr (s := s) (fun _ => Iff.rfl) (feedAt_of_point hf (fun _ _ => rfl)
        (fun _ hne => upd_ne _ _ (Ne.symm hne)) rfl rfl rfl rfl) (hfed f)
  | serviceOut p => exact feedRight_of_fed (serviceOut_healthSide s p) (fun _ hfed => serviceOut_fed p hfed) hs
  | serviceIn p => exact feedRight_of_fed (serviceIn_healthSide s p) (fun _ hfed => serviceIn_fed p hfed) hs
  | applyChanges b doubted => exact applyChanges_feedRight b doubted hs
  | takeMode m => exact feedRight_of_fed (takeMode_healthSide s m) (fun _ hfed => takeMode_fed m hfed) hs
  | unitTimer => exact feedRight_of_aside (s := s) rfl rfl (fun h f => by cases f <;> rfl) hs
  | writePanel p => exact writePanel_feedRight p hs
  | settings => exact feedRight_of_aside (s := s) rfl rfl (fun h f => by cases f <;> rfl) hs
  | setFlag n => exact setFlag_feedRight n hs
  | clearHealth => exact clearAllHealth_feedRight hs
  | management => exact feedRight_of_aside (s := s) rfl rfl (fun h f => by cases f <;> rfl) hs
  | storage => exact feedRight_of_aside (s := s) rfl rfl (fun h f => by cases f <;> rfl) hs

/-! ## Time -/

theorem millisecond_feedAt {h : Fin 96} (f : Feeder) : s.millisecond.feedAt h f = s.feedAt h f := by
  cases f with
  | health => rfl
  | point p =>
    have hpoint : (s.points.map fun v => { v with delay := v.delay.tick })[p] =
        { s.points[p] with delay := s.points[p].delay.tick } := Vector.getElem_map ..
    have hcondition : s.millisecond.points[p].condition = s.points[p].condition :=
      (congrArg Point.condition hpoint).trans rfl
    have hinhibits : s.millisecond.inhibited p = s.inhibited p := by
      have hhold : s.millisecond.mode.hold.isRunning = s.mode.hold.isRunning := Timer.tick_isRunning _
      unfold State.inhibited ModeTracker.inhibits
      rw [hhold]
      rfl
    exact feedAt_point_congr hcondition rfl hinhibits
  | channel c =>
    have hchannel : (s.channels.map fun v : Channel => { v with pulse := v.pulse.tick })[c] =
        { s.channels[c] with pulse := s.channels[c].pulse.tick } := Vector.getElem_map ..
    have hactive : s.millisecond.channels[c].isActive ↔ s.channels[c].isActive :=
      iff_of_eq ((congrArg Channel.isActive hchannel).trans rfl)
    exact Prod.ext (decide_eq_decide.mpr hactive) rfl

theorem millisecond_feedRight (hs : s.feedRight) : s.millisecond.feedRight :=
  feedRight_of_aside (s := s) rfl rfl (fun _ => millisecond_feedAt) hs

theorem microsecond_feedRight (hrunning : s.phase = .running) (hs : s.feedRight) : s.microsecond.feedRight := by
  have haside : ∀ n : Nat, State.feedRight { s with
      clock := s.clock + 1, field := s.field.later, station := s.station.later, msPhase := n
      management := { s.management with flight := s.management.flight.map Flight.later } } := fun n =>
    feedRight_of_aside (s := s) rfl rfl (fun h f => by cases f <;> rfl) hs
  rw [State.microsecond, if_pos hrunning]
  dsimp only
  split
  · exact haside _
  · exact millisecond_feedRight (haside 0)

/-! ## The end of a reset (R61, R98, R140) -/

/-- A part whose locked-out channels have not activated their windows yet. -/
structure Waking (s : State) : Prop where
  calm : ∀ c : Fin 8, s.channels[c].permit = false ∧ (s.channels[c].state = .disarmed ∨ s.channels[c].state = .lockout)
  absent : ∀ (c : Fin 8) (w : Fin 96), ¬s.feedsIn (.channel c) w
  other : ∀ f, (∀ c, f ≠ .channel c) → s.fed s.tables.panel.healthWindow f

theorem Waking.congr (hs : Waking s) (hchannels : t.channels = s.channels) (hmember : ∀ f, s.sameMember t f)
    (hwindow : t.tables.panel.healthWindow = s.tables.panel.healthWindow)
    (hfeed : ∀ (h : Fin 96) (f : Feeder), t.feedAt h f = s.feedAt h f) : Waking t where
  calm := by rw [hchannels]; exact hs.calm
  absent c w := by rw [hmember]; exact hs.absent c w
  other f hf := by rw [hwindow]; exact fed_congr (hmember f) (hfeed _ f) (hs.other f hf)

/-- A channel without permit that is not FIRING stays where it is (R88). -/
theorem evaluate_of_calm {c : Fin 8} (hpermit : s.channels[c].permit = false)
    (hstate : s.channels[c].state = .disarmed ∨ s.channels[c].state = .lockout) : s.evaluate c = s := by
  rcases hstate with hdisarmed | hlocked
  · refine evaluate_of_same (by rw [Channel.isActive, hdisarmed]; simp) ?_
    unfold State.evaluatedState
    rw [nextChannelState_eq, if_pos hpermit, hdisarmed]
  · exact evaluate_of_active (.inr hlocked)

theorem setVoters_of_calm {c : Fin 8} {l : List Voter} (hpermit : s.channels[c].permit = false)
    (hstate : s.channels[c].state = .disarmed ∨ s.channels[c].state = .lockout) :
    s.setVoters c l = s.modChannel c fun v => { v with voters := l, count := voteCount s.tables.trip[c].stale l } := by
  have hself := upd_self s.channels c fun v => { v with voters := l, count := voteCount s.tables.trip[c].stale l }
  unfold State.setVoters
  dsimp only
  split
  · exact evaluate_of_calm ((congrArg Channel.permit hself).trans hpermit)
      (hstate.imp (congrArg Channel.state hself).trans (congrArg Channel.state hself).trans)
  · rfl

theorem setVoters_waking (c : Fin 8) (l : List Voter) (hs : Waking s) : Waking (s.setVoters c l) := by
  obtain ⟨hpermit, hstate⟩ := hs.calm c
  rw [setVoters_of_calm hpermit hstate]
  have hget := upd_get s.channels c
  refine ⟨fun d => ?_, hs.absent, fun f hf => ?_⟩
  · have hd := hget d fun v => { v with voters := l, count := voteCount s.tables.trip[c].stale l }
    unfold State.modChannel
    dsimp only
    rw [hd]
    split
    next heq => exact heq ▸ hs.calm c
    next => exact hs.calm d
  · exact fed_congr (s := s) (fun _ => Iff.rfl) (modChannel_feedAt rfl f) (hs.other f hf)

theorem votesComeUp_waking (hs : Waking s) : Waking s.votesComeUp :=
  forEach_keeps (P := Waking) _ s (fun p _ u hu => by
    split
    · exact forEach_keeps (P := Waking) _ u (fun c _ v hv => by split <;> exact setVoters_waking c _ hv) hu
    · exact hu) hs

theorem raiseFlag_sameMember (s : State) (n : Fin 11) (f : Feeder) : s.sameMember (s.raiseFlag n) f := by
  intro w
  unfold State.raiseFlag
  split
  · exact Iff.rfl
  · rw [emit_sameMember]
    rfl

theorem flagsComeUp_waking (kind : ResetKind) (hs : Waking s) : Waking (s.flagsComeUp kind) :=
  forEach_keeps (P := Waking) _ s (fun n _ u hu => by
    have hchannels : (u.raiseFlag n).channels = u.channels := (congrArg State.channels (raiseFlag_view u n) :)
    refine ⟨by rw [hchannels]; exact hu.calm, fun c w hmem => hu.absent c w ?_, fun f hf => ?_⟩
    · exact (raiseFlag_sameMember u n _ w).mp hmem
    · rw [raiseFlag_window]
      exact raiseFlag_fed n (hu.other f hf)) hs

theorem evaluateFeeder_waking (hs : Waking s) : Waking s.evaluateFeeder := by
  have hchannels : s.evaluateFeeder.channels = s.channels := (congrArg State.channels (evaluateFeeder_view s) :)
  refine ⟨by rw [hchannels]; exact hs.calm, fun c w => ?_, fun f hf => ?_⟩
  · rw [evaluateFeeder_sameMember (by simp)]
    exact hs.absent c w
  · rw [evaluateFeeder_tables]
    exact evaluateFeeder_fed (hs.other f hf)

/-- A locked-out channel activates its window as the reset ends. -/
def State.tripComesUp (s : State) (c : Fin 8) : State :=
  if s.channels[c].state = .lockout then s.activateAt s.tables.trip[c].window (.channel c) else s

theorem tripComesUp_view (s : State) (c : Fin 8) : (s.tripComesUp c).offWindows = s.offWindows := by
  unfold State.tripComesUp
  split
  · exact activateAt_view s _ _
  · rfl

theorem tripComesUp_sameMember {c : Fin 8} {f : Feeder} (hf : f ≠ .channel c) : s.sameMember (s.tripComesUp c) f := by
  intro w
  unfold State.tripComesUp
  split
  · rw [feedsIn_activateAt]
    simp [hf]
  · exact Iff.rfl

theorem tripComesUp_channels (s : State) (c : Fin 8) : (s.tripComesUp c).channels = s.channels :=
  (congrArg State.channels (tripComesUp_view s c) :)

theorem tripComesUp_fed_other {h : Fin 96} {c : Fin 8} {f : Feeder} (hf : f ≠ .channel c) (hs : s.fed h f) :
    (s.tripComesUp c).fed h f :=
  fed_congr (tripComesUp_sameMember hf) (feedAt_of_windows (tripComesUp_view s c) f) hs

theorem tripComesUp_fed {h : Fin 96} {c : Fin 8} (hfiring : s.channels[c].state ≠ .firing)
    (habsent : ∀ w, ¬s.feedsIn (.channel c) w) : (s.tripComesUp c).fed h (.channel c) := by
  intro w
  rw [feedAt_of_windows (tripComesUp_view s c), feedAt_channel, Prod.mk_inj, decide_eq_true_iff]
  unfold State.tripComesUp
  split
  next hlocked =>
    rw [feedsIn_activateAt, or_iff_left (habsent w)]
    exact and_congr_left fun _ => ⟨fun _ => .inr hlocked, fun _ => rfl⟩
  next hfree => exact ⟨fun h => absurd h (habsent w), fun h => absurd h.1 (not_or.mpr ⟨hfiring, hfree⟩)⟩

theorem tripsComeUp_fed (hs : Waking s) (f : Feeder) : s.tripsComeUp.fed s.tables.panel.healthWindow f := by
  have hother : (∀ c, f ≠ .channel c) → s.tripsComeUp.fed s.tables.panel.healthWindow f := fun hf =>
    forEach_keeps (P := fun u => u.fed s.tables.panel.healthWindow f) _ s
      (fun c _ _ hu => tripComesUp_fed_other (hf c) hu) (hs.other f hf)
  cases f with
  | point => exact hother fun c => by simp
  | health => exact hother fun c => by simp
  | channel c =>
    refine forEach_each (f := fun c u => u.tripComesUp c)
      (P := fun c u => u.channels[c].state ≠ .firing ∧ ∀ w, ¬u.feedsIn (.channel c) w)
      (Q := fun c u => u.fed s.tables.panel.healthWindow (.channel c)) (fun c u h => tripComesUp_fed h.1 h.2)
      (fun c d u hne h => ?_) (fun c d u hne h => tripComesUp_fed_other (by simp [hne]) h) s (fun d => ?_) c
    · refine ⟨by rw [tripComesUp_channels]; exact h.1, fun w => ?_⟩
      rw [tripComesUp_sameMember (by simp [hne])]
      exact h.2 w
    · refine ⟨fun hfiring => ?_, hs.absent d⟩
      rcases (hs.calm d).2 with h | h <;> (rw [hfiring] at h; cases h)

theorem startUp_feedRight {u : State} (hs : Waking s) (hu : u = s.tripsComeUp.evaluateFeeder ∨ u = s.evaluateFeeder.tripsComeUp) :
    u.feedRight := by
  have hside : ∀ v : State, v.tripsComeUp.healthSide = v.healthSide := fun v => healthSide_of_windows (tripsComeUp_view v)
  rcases hu with hu | hu
  all_goals rw [hu]
  · refine evaluateFeeder_feedRight fun f => ?_
    rw [healthWindow_of_side (hside s)]
    exact tripsComeUp_fed hs f
  · refine ⟨fun f => ?_, healthRight_of_side (hside _) (evaluateFeeder_healthRight s)⟩
    rw [healthWindow_of_side (hside _)]
    exact tripsComeUp_fed (evaluateFeeder_waking hs) f

/-- Before its end a reset has left no feeder active but those of locked-out channels (R23, R60, R79, R187). -/
theorem waking_of_reset (hs : s.restOk) {kind : ResetKind} (hphase : s.phase = .inReset kind) : Waking s := by
  obtain ⟨heq, -, hreset⟩ := hs (by rw [hphase]; simp)
  have hwindows : ∀ w : Fin 96, s.windows[w].feeders = [] := fun w => by
    rw [heq]
    simp [State.reset]
  have hnone : ∀ (f : Feeder) (w : Fin 96), ¬s.feedsIn f w := fun f w h => by
    unfold State.feedsIn at h
    rw [hwindows] at h
    cases h
  have hidle : ∀ f : Feeder, (∀ c, f ≠ .channel c) → ∀ h : Fin 96, (s.feedAt h f).1 = false := by
    intro f hf h
    cases f with
    | channel c => exact absurd rfl (hf c)
    | health =>
      rw [heq]
      rfl
    | point p =>
      have hcondition : s.points[p].condition = .normal := by
        rw [heq]
        simp [State.reset, Point.atReset]
      unfold State.feedAt State.feederActive
      dsimp only
      rw [hcondition]
      simp [alarmed]
  refine ⟨fun c => ?_, fun c w => hnone _ w, fun f hf w => ?_⟩
  · have hchannel : s.channels[c] = channelAfterReset s.nv.lockout[c] := by
      rw [(hreset (by rw [hphase]; simp)).2]
      simp
    rw [hchannel]
    cases s.nv.lockout[c] with
    | true => exact ⟨rfl, .inr rfl⟩
    | false => exact ⟨rfl, .inl rfl⟩
  · refine ⟨fun h => absurd h (hnone f w), fun h => ?_⟩
    have := hidle f hf s.tables.panel.healthWindow
    rw [h] at this
    cases this

theorem begun_waking (celsius : Int) (tenths : Nat) (hs : Waking s) : Waking (s.begun celsius tenths) := by
  unfold State.begun
  dsimp only
  split <;> exact hs.congr rfl (fun _ _ => Iff.rfl) rfl fun h f => by cases f <;> rfl

theorem finishReset_feedRight (kind : ResetKind) (celsius : Int) (tenths : Nat) (hs : Waking s) :
    (s.finishReset kind celsius tenths).feedRight := by
  have hflagged : Waking (s.flagged kind celsius tenths) :=
    flagsComeUp_waking kind (votesComeUp_waking (begun_waking celsius tenths hs))
  obtain ⟨u, hu, heq⟩ := finishReset_cases s kind celsius tenths
  have hstarted := startUp_feedRight hflagged hu
  rw [heq]
  exact feedRight_of_aside (s := u) rfl rfl (fun h f => by cases f <;> rfl) hstarted

/-! ## Every step -/

theorem feedersOk_healthOk_iff : s.feedersOk ∧ s.healthOk ↔ (s.phase = .running → s.feedRight) := by
  have hfeeders : s.feedersOk ↔ (s.phase = .running → ∀ f, s.fed s.tables.panel.healthWindow f) := by
    unfold State.feedersOk State.fed State.feedsIn
    simp only [feeds_iff]
    exact imp_congr_right fun _ => forall_comm
  rw [hfeeders]
  exact ⟨fun h hrunning => ⟨h.1 hrunning, h.2 hrunning⟩, fun h => ⟨fun hrunning => (h hrunning).fed, fun hrunning => (h hrunning).health⟩⟩

theorem feedersOk_keeps : Keeps fun s => s.feedersOk ∧ s.healthOk where
  link {s t} h hs := by rw [h]; exact hs
  act hrunning h hs := feedersOk_healthOk_iff.mpr fun _ => h.feedRight (feedersOk_healthOk_iff.mp hs hrunning)
  idle hrunning hs :=
    feedersOk_healthOk_iff.mpr fun _ => microsecond_feedRight hrunning (feedersOk_healthOk_iff.mp hs hrunning)
  ends _ := feedersOk_healthOk_iff.mpr fun h => by cases h
  resets _ _ _ := feedersOk_healthOk_iff.mpr fun h => by cases h

/-- Settles O9. -/
theorem feedersKept : Obligations.FeedersKept := by
  unfold Obligations.FeedersKept
  intro s t hrest hs h
  refine feedersOk_keeps.step hs (fun rest kind celsius tenths hphase => ?_) h
  exact feedersOk_healthOk_iff.mpr fun _ => finishReset_feedRight kind celsius tenths (s := { s with pending := rest })
    ((waking_of_reset hrest hphase).congr (s := s) rfl (fun _ _ => Iff.rfl) rfl fun h f => by cases f <;> rfl)

end Sys2Proof.Machine
end

section
/-! Settles O13: the ports stay within their bounds, no free transmitter of an UP port has something to send, and the Report
Queue, the lost count and a PANEL-REPORT being sent stay consistent (R143, R146, R149 to R155, R158 to R160). -/

namespace Sys2Proof.Machine

variable {s t : State}

/-! ## The Report Queue against what the Station transmitter sends (R158, R159) -/

/-- The Report Queue and the lost count. -/
def State.queue (s : State) : List Report × Nat := (s.reports, s.lost)

/-- A transmitter that sends a PANEL-REPORT sends records that wait, and carries a lost count that has not fallen. -/
def State.queueFits (s : State) (tx : Transmitter) : Prop :=
  ∀ n l, tx = .report n l →
    1 ≤ n ∧ n ≤ 8 ∧ n ≤ s.reports.length ∧ l ≤ s.lost ∧ (l < s.lost → s.reports.length = 32)

/-- The queue within its bounds, a record counted as lost only while some wait. -/
def State.queueBounds (s : State) : Prop := s.reports.length ≤ 32 ∧ s.lost ≤ 255 ∧ (0 < s.lost → s.reports ≠ [])

theorem queueOk_iff : s.queueOk ↔ s.queueBounds ∧ s.queueFits s.station.tx := by
  unfold State.queueOk State.queueBounds State.queueFits
  tauto

theorem queueFits_congr {tx : Transmitter} (h : t.queue = s.queue) (hs : s.queueFits tx) : t.queueFits tx := by
  obtain ⟨hreports, hlost⟩ := Prod.mk_inj.mp h
  unfold State.queueFits
  rw [hreports, hlost]
  exact hs

theorem queueBounds_congr (h : t.queue = s.queue) (hs : s.queueBounds) : t.queueBounds := by
  obtain ⟨hreports, hlost⟩ := Prod.mk_inj.mp h
  unfold State.queueBounds
  rw [hreports, hlost]
  exact hs

/-- A transmitter that sends no PANEL-REPORT fits any queue. -/
theorem queueFits_of_other {tx : Transmitter} (h : ∀ n l, tx ≠ .report n l) : s.queueFits tx := fun n l heq =>
  absurd heq (h n l)

theorem emit_queueBounds (b : ReportBody) (hs : s.queueBounds) : (s.emit b).queueBounds := by
  obtain ⟨hlength, hlost, hwaits⟩ := hs
  by_cases hroom : s.reports.length < 32
  · rw [emit_joins b hroom]
    exact ⟨by simpa using hroom, hlost, fun _ => by simp⟩
  · rw [emit_drops b (by omega)]
    refine ⟨hlength, Nat.min_le_left _ _, fun _ hempty => ?_⟩
    have hempty : s.reports = [] := hempty
    rw [hempty] at hroom
    exact hroom (by decide)

theorem emit_queueFits (b : ReportBody) {tx : Transmitter} (hbounds : s.queueBounds) (hs : s.queueFits tx) :
    (s.emit b).queueFits tx := by
  obtain ⟨hlength, hlost, -⟩ := hbounds
  intro n l htx
  obtain ⟨hone, height, hn, hl, hfull⟩ := hs n l htx
  by_cases hroom : s.reports.length < 32
  · rw [emit_joins b hroom]
    have hlast : ¬l < s.lost := fun h => by have := hfull h; omega
    refine ⟨hone, height, ?_, hl, fun h => absurd h hlast⟩
    simp only [List.length_append, List.length_singleton]
    omega
  · rw [emit_drops b (by omega)]
    refine ⟨hone, height, hn, ?_, fun _ => ?_⟩
    · dsimp only
      omega
    · dsimp only
      omega

theorem resetGroup_queue (s : State) (g : Fin 8) :
    ∃ (u : State) (b : ReportBody), u.queue = s.queue ∧ (s.resetGroup g).queue = (u.emit b).queue := by
  refine ⟨_, _, ?_, rfl⟩
  split <;> rfl

/-- A stroke makes one record at most. -/
theorem Stroke.queue_eq (h : Stroke s t) : t.queue = s.queue ∨ ∃ (u : State) (b : ReportBody), u.queue = s.queue ∧ t.queue = (u.emit b).queue := by
  have hornCheck : ∀ u : State, u.hornCheck.queue = u.queue := fun u => by
    unfold State.hornCheck
    split <;> rfl
  cases h with
  | write t ht => exact .inl (congrArg (fun x : Display => (x.reports, x.lost)) ht)
  | emit b => exact .inr ⟨s, b, rfl, rfl⟩
  | activate w f =>
    unfold State.activate
    dsimp only
    split <;> exact .inr ⟨_, _, by rfl, rfl⟩
  | deactivate w f =>
    unfold State.deactivate
    dsimp only
    split
    · exact .inr ⟨_, _, by rfl, rfl⟩
    · exact .inl rfl
  | ackWindow w =>
    unfold State.ackWindow
    split
    · exact .inr ⟨_, _, by rfl, hornCheck _⟩
    · exact .inl rfl
  | resetWindow w =>
    unfold State.resetWindow
    split
    · exact .inr ⟨_, _, by rfl, rfl⟩
    · exact .inl rfl
  | silence =>
    unfold State.silenceHorn
    split <;> exact .inl rfl
  | writeWindow w r =>
    unfold State.writeWindow
    dsimp only
    split
    · exact .inl (hornCheck _)
    · exact .inl rfl
  | arrive g p stamp =>
    unfold State.arrive
    dsimp only
    repeat' split
    · exact .inl rfl
    · exact .inl rfl
    · exact .inr ⟨_, _, by rfl, rfl⟩
    · exact .inl rfl
    · exact .inl rfl
  | resetGroup g =>
    exact .inr (resetGroup_queue s g)
  | freezeGroup g =>
    unfold State.freezeGroup
    refine .inr ⟨_, _, ?_, rfl⟩
    split <;> rfl
  | writeGroup g r =>
    unfold State.writeGroup
    dsimp only
    split
    · obtain ⟨u, b, hu, heq⟩ := resetGroup_queue (s.modTables fun t => { t with group := upd t.group g fun _ => r }) g
      exact .inr ⟨u, b, hu, heq⟩
    · exact .inl rfl

/-- The queue in bounds, with a transmitter that fits it. -/
def State.queueKept (tx : Transmitter) (s : State) : Prop := s.queueBounds ∧ s.queueFits tx

theorem Stroke.queueKept {tx : Transmitter} (h : Stroke s t) (hs : s.queueKept tx) : t.queueKept tx := by
  have same : ∀ {u v : State}, v.queue = u.queue → u.queueKept tx → v.queueKept tx := fun heq hu =>
    ⟨queueBounds_congr heq hu.1, queueFits_congr heq hu.2⟩
  rcases h.queue_eq with heq | ⟨u, b, hu, heq⟩
  · exact same heq hs
  · obtain ⟨hbounds, hfits⟩ := same hu hs
    exact same heq ⟨emit_queueBounds b hbounds, emit_queueFits b hbounds hfits⟩

theorem Acts.queueKept {tx : Transmitter} (h : Acts s t) (hs : s.queueKept tx) : t.queueKept tx := by
  induction h with
  | refl => exact hs
  | tail _ hact ih => exact hact.strokes.keeps (P := State.queueKept tx) Stroke.queueKept ih

/-! ## The line side between the arbiters' moves -/

/-- Both ports by themselves and the queue, without what the arbiters see to. -/
structure State.lineOk (s : State) : Prop where
  field : s.field.ok
  station : s.station.ok
  reports : ∀ n l, s.field.tx ≠ .report n l
  queue : s.queueOk

theorem State.lineOk.port (hs : s.lineOk) (p : PortId) : (s.port p).ok := by
  cases p
  · exact hs.field
  · exact hs.station

/-- A port that is UP with a free transmitter has nothing to send (R152). -/
def State.settledAt (s : State) (p : PortId) : Prop :=
  (s.port p).status = .up → (s.port p).tx = .free → (s.port p).fifo = [] ∧ s.ownFrame p = none

theorem linkOk_queueOk_iff : s.linkOk ∧ s.queueOk ↔ s.lineOk ∧ ∀ p, s.settledAt p :=
  ⟨fun ⟨⟨hfield, hstation, hsettled, hreports⟩, hqueue⟩ => ⟨⟨hfield, hstation, hreports, hqueue⟩, hsettled⟩,
    fun ⟨⟨hfield, hstation, hreports, hqueue⟩, hsettled⟩ => ⟨⟨hfield, hstation, hsettled, hreports⟩, hqueue⟩⟩

/-- A change of one port that leaves it in order, its transmitter as it was or sending no PANEL-REPORT. -/
theorem modPort_lineOk {p : PortId} {f : Port → Port} (hok : (f (s.port p)).ok)
    (htx : (f (s.port p)).tx = (s.port p).tx ∨ ∀ n l, (f (s.port p)).tx ≠ .report n l) (hs : s.lineOk) :
    (s.modPort p f).lineOk := by
  obtain ⟨hfield, hstation, hreports, hqueue⟩ := hs
  cases p with
  | field =>
    refine ⟨hok, hstation, fun n l => ?_, hqueue⟩
    rcases htx with htx | htx
    · exact fun heq => hreports n l (htx.symm.trans heq)
    · exact htx n l
  | station =>
    obtain ⟨hbounds, hfits⟩ := queueOk_iff.mp hqueue
    refine ⟨hfield, hok, hreports, queueOk_iff.mpr ⟨hbounds, ?_⟩⟩
    rcases htx with htx | htx
    · exact fun n l heq => hfits n l (htx.symm.trans heq)
    · exact queueFits_of_other htx

theorem Acts.lineOk (h : Acts s t) (hs : s.lineOk) : t.lineOk := by
  have hfield : t.field = s.field := Acts.port_eq h .field
  have hstation : t.station = s.station := Acts.port_eq h .station
  have hqueue := h.queueKept (queueOk_iff.mp hs.queue)
  refine ⟨by rw [hfield]; exact hs.field, by rw [hstation]; exact hs.station, by rw [hfield]; exact hs.reports, ?_⟩
  rw [queueOk_iff, hstation]
  exact hqueue

/-! ## Ports by themselves -/

/-- A port's counters in their ranges, and no more waiting than there are places. -/
structure Port.Bounds (q : Port) : Prop where
  crc : q.crc ≤ 65535
  length : q.length ≤ 65535
  stall : q.stall ≤ 65535
  overflow : q.overflow ≤ 65535
  unanswered : q.unanswered ≤ 65535
  fifo : q.fifo.length ≤ 4
  slots : q.slots.length ≤ 2

/-- The transmitter and the forwarded count that a port in its present state may have. -/
structure Port.Arbitrates (q : Port) (x : Transmitter × Nat) : Prop where
  forwarded : x.2 ≤ 4
  resting : q.status ≠ .up → x.1 = .free ∧ x.2 = 0
  gap : q.justUp = true → x.1 ≠ .gap
  transit : x.1 = .transit → q.fifo ≠ []
  response : x.1 = .response → q.responseWaits = true

/-- A port is in order when its counters are, a DOWN port is empty, only an UP one is just UP, and its arbiter fits. -/
theorem Port.ok_iff (q : Port) :
    q.ok ↔ q.Bounds ∧ (q.status = .down → q.fifo = [] ∧ q.slots = []) ∧ (q.justUp = true → q.status = .up) ∧
      q.Arbitrates (q.tx, q.forwarded) := by
  constructor
  · rintro ⟨hcrc, hlength, hstall, hoverflow, hunanswered, hfifo, hslots, hforwarded, hdown, hresting, hjust, htransit, hresponse⟩
    exact ⟨⟨hcrc, hlength, hstall, hoverflow, hunanswered, hfifo, hslots⟩, fun h => ⟨(hdown h).1, (hdown h).2.1⟩,
      fun h => (hjust h).1, hforwarded, hresting, fun h => (hjust h).2, htransit, hresponse⟩
  · rintro ⟨⟨hcrc, hlength, hstall, hoverflow, hunanswered, hfifo, hslots⟩, hdown, hjust, hforwarded, hresting, hgap, htransit,
      hresponse⟩
    exact ⟨hcrc, hlength, hstall, hoverflow, hunanswered, hfifo, hslots, hforwarded,
      fun h => ⟨(hdown h).1, (hdown h).2, (hresting (by rw [h]; decide)).2⟩, hresting, fun h => ⟨hjust h, hgap h⟩, htransit,
      hresponse⟩

variable {q : Port}

/-- A port that sends is UP (R143). -/
theorem Port.ok.up_of_sends (hq : q.ok) (h : q.tx ≠ .free) : q.status = .up := by
  obtain ⟨-, -, -, harbiter⟩ := q.ok_iff.mp hq
  by_contra hresting
  exact h (harbiter.resting hresting).1

theorem Port.ok.trains (hq : q.ok) (h : q.status = .down) : { q with status := .training }.ok := by
  obtain ⟨hbounds, hdown, hjust, harbiter⟩ := q.ok_iff.mp hq
  refine (Port.ok_iff _).mpr ⟨{ hbounds with }, fun h => (by cases h), fun hup => ?_, { harbiter with
    resting := fun _ => harbiter.resting (by rw [h]; decide) }⟩
  rw [hjust hup] at h
  cases h

theorem Port.ok.goesUp (hq : q.ok) (h : q.status = .training) : { q with status := .up, justUp := true }.ok := by
  obtain ⟨hbounds, -, -, harbiter⟩ := q.ok_iff.mp hq
  have hfree : q.tx = .free := (harbiter.resting (by rw [h]; decide)).1
  exact (Port.ok_iff _).mpr ⟨{ hbounds with }, fun h => (by cases h), fun _ => rfl, { harbiter with
    resting := fun h => absurd rfl h
    gap := fun _ => by dsimp only; rw [hfree]; simp }⟩

theorem Port.ok.goesDown (hq : q.ok) :
    { q with status := .down, fifo := [], slots := [], forwarded := 0, tx := .free, justUp := false }.ok := by
  obtain ⟨hbounds, -, -, -⟩ := q.ok_iff.mp hq
  exact (Port.ok_iff _).mpr ⟨{ hbounds with fifo := Nat.zero_le _, slots := Nat.zero_le _ }, fun _ => ⟨rfl, rfl⟩,
    fun h => (by cases h), Nat.zero_le _, fun _ => ⟨rfl, rfl⟩, fun h => (by cases h), fun h => (by cases h), fun h => (by cases h)⟩

/-- The gap behind a frame (R152). -/
theorem Port.ok.leaves {fifo : List Frame} {slots : List Slot} {forwarded : Nat} (hq : q.ok) (hsends : q.tx ≠ .free)
    (hfifo : fifo.length ≤ q.fifo.length) (hslots : slots.length ≤ q.slots.length) (hforwarded : forwarded ≤ q.forwarded) :
    { q with fifo := fifo, slots := slots, forwarded := forwarded, tx := .gap, justUp := false }.ok := by
  have hup := hq.up_of_sends hsends
  obtain ⟨hbounds, -, -, harbiter⟩ := q.ok_iff.mp hq
  exact (Port.ok_iff _).mpr ⟨{ hbounds with fifo := hfifo.trans hbounds.fifo, slots := hslots.trans hbounds.slots },
    fun h => absurd (hup.symm.trans h) (by decide), fun h => (by cases h),
    hforwarded.trans harbiter.forwarded, fun h => absurd hup h, fun h => (by cases h), fun h => (by cases h), fun h => (by cases h)⟩

theorem Port.ok.gapPassed (hq : q.ok) (h : q.tx = .gap) : { q with tx := .free }.ok := by
  have hup := hq.up_of_sends (by rw [h]; decide)
  obtain ⟨hbounds, hdown, hjust, harbiter⟩ := q.ok_iff.mp hq
  exact (Port.ok_iff _).mpr ⟨{ hbounds with }, hdown, hjust, harbiter.forwarded, fun h => absurd hup h,
    fun _ => by simp, fun h => (by cases h), fun h => (by cases h)⟩

/-- The oldest slot stays FILLED when RESERVED ones are filled. -/
theorem responseWaits_fillSlot {s : State} {result : ResultCode} (h : q.responseWaits = true) :
    { q with slots := q.slots.map (s.fillSlot result) }.responseWaits = true := by
  unfold Port.responseWaits at h ⊢
  dsimp only
  cases hslots : q.slots with
  | nil => simp [hslots] at h
  | cons slot rest =>
    rw [hslots] at h
    cases slot with
    | filled f key => rfl
    | reserved id src => cases h

theorem Port.ok.answered {s : State} {result : ResultCode} (hq : q.ok) :
    { q with slots := q.slots.map (s.fillSlot result) }.ok := by
  obtain ⟨hbounds, hdown, hjust, harbiter⟩ := q.ok_iff.mp hq
  refine (Port.ok_iff _).mpr ⟨{ hbounds with slots := ?_ }, fun h => ⟨(hdown h).1, ?_⟩, hjust,
    { harbiter with response := fun h => responseWaits_fillSlot (harbiter.response h) }⟩
  · rw [List.length_map]
    exact hbounds.slots
  · rw [(hdown h).2]
    rfl

/-! ## The moves of the line side -/

theorem LineMove.lineOk (h : LineMove s t) (hs : s.lineOk) : t.lineOk := by
  cases h with
  | trains p h => exact modPort_lineOk ((hs.port p).trains h) (.inl rfl) hs
  | goesUp p h => exact modPort_lineOk ((hs.port p).goesUp h) (.inl rfl) hs
  | goesDown p => exact modPort_lineOk (hs.port p).goesDown (.inr fun _ _ => by simp) hs
  | transitSent p h =>
    exact modPort_lineOk ((hs.port p).leaves (by rw [h]; decide) (by simp) (le_refl _) (le_refl _)) (.inr fun _ _ => by simp) hs
  | responseSent p h =>
    exact modPort_lineOk ((hs.port p).leaves (by rw [h]; decide) (le_refl _) (by simp) (Nat.zero_le _))
      (.inr fun _ _ => by simp [Port.ownSent]) hs
  | reportSent n l h =>
    obtain ⟨hfield, hstation, hreports, hqueue⟩ := hs
    obtain ⟨⟨hlength, hlost, -⟩, hfits⟩ := queueOk_iff.mp hqueue
    obtain ⟨-, height, -, -, hfull⟩ := hfits n l h
    have hsent : s.station.ownSent.ok := hstation.leaves (by rw [h]; simp) (le_refl _) (le_refl _) (Nat.zero_le _)
    refine ⟨hfield, hsent, hreports, queueOk_iff.mpr ⟨⟨?_, ?_, fun hmore hempty => ?_⟩, ?_⟩⟩
    · rw [List.length_drop]
      omega
    · dsimp only
      omega
    · have hlength := hfull (by dsimp only at hmore; omega)
      have hgone := List.drop_eq_nil_iff.mp hempty
      omega
    · exact queueFits_of_other fun _ _ => by simp [Port.ownSent]
  | gapPassed p h => exact modPort_lineOk ((hs.port p).gapPassed h) (.inr fun _ _ => by simp) hs
  | answer result => exact ⟨hs.field.answered, hs.station.answered, hs.reports, hs.queue⟩

theorem Moves.lineOk (h : Moves s t) (hs : s.lineOk) : t.lineOk := by
  induction h with
  | refl => exact hs
  | tail _ hmove ih => exact hmove.elim (fun hact => (Acts.one hact).lineOk ih) fun hline => hline.lineOk ih

/-! ## The arbiters (R151, R152) -/

/-- What may be chosen for port `p`: what its port admits, and a PANEL-REPORT at the Station port alone, of records that wait. -/
structure State.fits (s : State) (p : PortId) (x : Transmitter × Nat) : Prop where
  port : (s.port p).Arbitrates x
  station : ∀ n l, x.1 = .report n l → p = .station
  queue : s.queueFits x.1

/-- What a port's arbiter has now, fits. -/
theorem State.lineOk.fits (hs : s.lineOk) (p : PortId) : s.fits p ((s.port p).tx, (s.port p).forwarded) := by
  obtain ⟨-, -, -, harbiter⟩ := (Port.ok_iff _).mp (hs.port p)
  cases p with
  | field =>
    exact ⟨harbiter, fun n l h => absurd h (hs.reports n l), queueFits_of_other hs.reports⟩
  | station => exact ⟨harbiter, fun _ _ _ => rfl, (queueOk_iff.mp hs.queue).2⟩

/-- An arbiter's move to something that fits. -/
theorem withArbiter_lineOk {p : PortId} {x : Transmitter × Nat} (hx : s.fits p x) (hs : s.lineOk) :
    (s.modPort p fun q => q.withArbiter x).lineOk := by
  obtain ⟨hbounds, hdown, hjust, -⟩ := (Port.ok_iff _).mp (hs.port p)
  obtain ⟨hport, hstation, hfits⟩ := hx
  have hok : ((s.port p).withArbiter x).ok := (Port.ok_iff _).mpr ⟨{ hbounds with }, hdown, hjust, { hport with }⟩
  cases p with
  | field => exact ⟨hok, hs.station, fun n l heq => absurd (hstation n l heq) (by decide), hs.queue⟩
  | station => exact ⟨hs.field, hok, hs.reports, queueOk_iff.mpr ⟨(queueOk_iff.mp hs.queue).1, hfits⟩⟩

theorem fits_beginWait {p : PortId} {x : Transmitter × Nat} (was now : Bool) (hx : s.fits p x) :
    s.fits p (beginWait was now x) := by
  unfold beginWait
  split
  · exact ⟨{ hx.port with forwarded := Nat.zero_le _, resting := fun h => ⟨(hx.port.resting h).1, rfl⟩ }, hx.station, hx.queue⟩
  · exact hx

/-- A frame that a port may send. -/
structure State.sendable (s : State) (p : PortId) (x : Transmitter) : Prop where
  busy : x ≠ .free ∧ x ≠ .gap ∧ x ≠ .transit
  response : x = .response → (s.port p).responseWaits = true
  station : ∀ n l, x = .report n l → p = .station
  queue : s.queueFits x

theorem sendable_fits {p : PortId} {x : Transmitter} {n : Nat} (hup : (s.port p).status = .up) (hn : n ≤ 4)
    (hx : s.sendable p x) : s.fits p (x, n) :=
  ⟨⟨hn, fun h => absurd hup h, fun _ => hx.busy.2.1, fun h => absurd h hx.busy.2.2, hx.response⟩, hx.station, hx.queue⟩

/-- The arbiter's choice fits, where what it chooses from does (R152). -/
theorem fits_chooseNext {p : PortId} {own : Option Transmitter} {waiting : Nat} {x : Transmitter × Nat} (hx : s.fits p x)
    (hown : ∀ v, own = some v → s.sendable p v) (hwaiting : waiting ≠ 0 → (s.port p).fifo ≠ []) :
    s.fits p (chooseNext ((s.port p).status = .up) own waiting x) := by
  unfold chooseNext
  split
  next hchooses =>
    obtain ⟨hup, -⟩ := Bool.and_eq_true_iff.mp hchooses
    have hup : (s.port p).status = .up := of_decide_eq_true hup
    have transit : ∀ n : Nat, n ≤ 4 → waiting ≠ 0 → s.fits p (.transit, n) := fun n hn hw =>
      ⟨⟨hn, fun h => absurd hup h, fun _ => by simp, fun _ => hwaiting hw, fun h => (by cases h)⟩,
        fun _ _ h => (by cases h), queueFits_of_other fun _ _ => by simp⟩
    split
    · split
      · exact hx
      next hw => exact transit _ hx.port.forwarded hw
    next v =>
      split
      · exact sendable_fits hup hx.port.forwarded (hown v rfl)
      next hw =>
        split
        next hlimit => exact transit _ hlimit hw
        · exact sendable_fits hup hx.port.forwarded (hown v rfl)
  next => exact hx

/-- The own frame of a port is one that it may send. -/
theorem ownFrame_sendable (s : State) (p : PortId) : ∀ v, s.ownFrame p = some v → s.sendable p v := by
  intro v hv
  unfold State.ownFrame at hv
  split at hv
  next hwaits =>
    cases hv
    exact ⟨by simp, fun _ => hwaits, fun _ _ h => (by cases h), queueFits_of_other fun _ _ => by simp⟩
  next =>
    split at hv
    next hreport =>
      obtain ⟨hstation, hmore⟩ := Bool.and_eq_true_iff.mp hreport
      have hmore : s.recordsInFrame < s.reports.length := of_decide_eq_true hmore
      cases hv
      refine ⟨by simp, fun h => (by cases h), fun _ _ _ => of_decide_eq_true hstation, fun n l heq => ?_⟩
      have hcap : Config.reportsPerFrame = 8 := rfl
      cases heq
      rw [hcap]
      exact ⟨by omega, by omega, by omega, le_refl _, fun h => absurd h (lt_irrefl _)⟩
    next => cases hv

/-- A choice that leaves the transmitter free leaves it as it was: nothing waits at an UP port. -/
theorem chooseNext_free {p : PortId} {own : Option Transmitter} {waiting : Nat} {x : Transmitter × Nat}
    (hown : ∀ v, own = some v → s.sendable p v) {up : Bool} (hfree : (chooseNext up own waiting x).1 = .free) :
    x.1 = .free ∧ (up = true → own = none ∧ waiting = 0) := by
  unfold chooseNext at hfree
  split at hfree
  next hchooses =>
    obtain ⟨-, hx⟩ := Bool.and_eq_true_iff.mp hchooses
    refine ⟨of_decide_eq_true hx, fun _ => ?_⟩
    split at hfree
    · split at hfree
      next hw => exact ⟨rfl, hw⟩
      next => cases hfree
    next v =>
      have hbusy := (hown v rfl).busy.1
      split at hfree
      · exact absurd hfree hbusy
      · split at hfree
        · cases hfree
        · exact absurd hfree hbusy
  next hkept => exact ⟨hfree, fun hup => absurd (by rw [hup, hfree]; rfl) hkept⟩

theorem beginWait_fst (was now : Bool) (x : Transmitter × Nat) : (beginWait was now x).1 = x.1 := by
  unfold beginWait
  split <;> rfl

/-- What a port waits to send by itself, over a choice that leaves its transmitter free. -/
theorem ownFrame_withArbiter {p : PortId} {x : Transmitter × Nat} (htx : (s.port p).tx = .free) (hx : x.1 = .free) :
    (s.modPort p fun q => q.withArbiter x).ownFrame p = s.ownFrame p := by
  cases p with
  | field => rfl
  | station =>
    have hstation : s.station.tx = .free := htx
    have hnone : (s.modPort .station fun q => q.withArbiter x).recordsInFrame = s.recordsInFrame := by
      unfold State.recordsInFrame State.modPort Port.withArbiter
      dsimp only
      rw [hstation, hx]
    unfold State.ownFrame
    rw [hnone]
    rfl

/-- A port whose arbiter has chosen over all that waits there is settled. -/
theorem withArbiter_settledAt {p : PortId} {x : Transmitter × Nat} (hx : x.1 = .free → (s.port p).tx = .free) :
    (s.modPort p fun q => q.withArbiter
      (chooseNext ((s.port p).status = .up) (s.ownFrame p) (s.port p).fifo.length x)).settledAt p := by
  intro hup hfree
  rw [modPort_port] at hup hfree ⊢
  obtain ⟨hbefore, hnothing⟩ := chooseNext_free (ownFrame_sendable s p) hfree
  obtain ⟨hown, hwaiting⟩ := hnothing (decide_eq_true hup)
  refine ⟨List.length_eq_zero_iff.mp hwaiting, ?_⟩
  rw [ownFrame_withArbiter (hx hbefore) hfree, hown]

/-- What another port does leaves a settled port settled. -/
theorem modPort_settledAt {p q : PortId} {f : Port → Port} (hne : q ≠ p) (hs : s.settledAt q) :
    (s.modPort p f).settledAt q := by
  cases p <;> cases q
  · exact absurd rfl hne
  · exact hs
  · exact hs
  · exact absurd rfl hne

theorem settlePort_lineOk (before : State) (p : PortId) (hs : s.lineOk) : (settlePort before p s).lineOk :=
  withArbiter_lineOk (fits_chooseNext (fits_beginWait _ _ (hs.fits p)) (ownFrame_sendable s p)
    fun h hnil => h (by rw [hnil]; rfl)) hs

theorem settlePort_settledAt (before : State) (p : PortId) : (settlePort before p s).settledAt p :=
  withArbiter_settledAt fun h => (beginWait_fst _ _ _).symm.trans h

/-- A step that ends with the arbiters leaves nothing that a free transmitter should send (R152). -/
theorem settle_linkOk (before : State) (hs : s.lineOk) : (settle before s).linkOk ∧ (settle before s).queueOk := by
  refine linkOk_queueOk_iff.mpr ⟨settlePort_lineOk before .station (settlePort_lineOk before .field hs), fun p => ?_⟩
  cases p with
  | field => exact modPort_settledAt (p := .station) (by decide) (settlePort_settledAt before .field)
  | station => exact settlePort_settledAt before .station

end Sys2Proof.Machine
end

section
/-! Settles O13, continued: frames that pass, requests, time and the resets. -/

namespace Sys2Proof.Machine

variable {s t : State}

/-! ## Frames that pass (R147 to R149, R161) -/

theorem Port.ok.joins {q : Port} {f : Frame} (hq : q.ok) (hon : q.status ≠ .down) (hroom : q.fifo.length < 4) :
    { q with fifo := q.fifo ++ [f] }.ok := by
  obtain ⟨hbounds, hdown, hjust, harbiter⟩ := q.ok_iff.mp hq
  exact (Port.ok_iff _).mpr ⟨{ hbounds with fifo := by simpa using hroom }, fun h => absurd h hon, hjust,
    { harbiter with transit := fun _ => by simp }⟩

theorem Port.ok.overflows {q : Port} (hq : q.ok) : { q with overflow := countUp Config.portCounterMax q.overflow }.ok := by
  obtain ⟨hbounds, hdown, hjust, harbiter⟩ := q.ok_iff.mp hq
  exact (Port.ok_iff _).mpr ⟨{ hbounds with overflow := Nat.min_le_left _ _ }, hdown, hjust, { harbiter with }⟩

theorem offer_lineOk (p : PortId) (f : Frame) (hs : s.lineOk) : (s.offer p f).lineOk := by
  unfold State.offer
  dsimp only
  split
  · exact hs
  next hon =>
    split
    next hroom => exact modPort_lineOk ((hs.port _).joins hon hroom) (.inl rfl) hs
    · exact modPort_lineOk (hs.port p).overflows (.inl rfl) hs

/-- What an own frame of a port is chosen by: its slots, what the Station transmitter sends, and the queue. -/
theorem ownFrame_congr {p : PortId} (hslots : (t.port p).slots = (s.port p).slots) (hstation : t.station.tx = s.station.tx)
    (hqueue : t.queue = s.queue) : t.ownFrame p = s.ownFrame p := by
  obtain ⟨hreports, hlost⟩ := Prod.mk_inj.mp hqueue
  unfold State.ownFrame State.recordsInFrame Port.responseWaits
  rw [hslots, hstation, hreports, hlost]

theorem offer_queue (s : State) (p : PortId) (f : Frame) : (s.offer p f).queue = s.queue := by
  rw [offer_view]
  rfl

theorem offer_slots (s : State) (p : PortId) (f : Frame) :
    ((s.offer p f).port (otherPort p)).slots = (s.port (otherPort p)).slots := by
  rw [(offer_ports s p f).1]
  rfl

theorem offer_tx (s : State) (p q : PortId) (f : Frame) : ((s.offer p f).port q).tx = (s.port q).tx := by
  obtain ⟨hother, hown⟩ := offer_ports s p f
  by_cases heq : q = p
  · rw [heq, hown]
    rfl
  · have hq : q = otherPort p := by cases p <;> cases q <;> simp_all [otherPort]
    rw [hq, hother]
    rfl

theorem offer_ownFrame (s : State) (p : PortId) (f : Frame) : (s.offer p f).ownFrame (otherPort p) = s.ownFrame (otherPort p) :=
  ownFrame_congr (offer_slots s p f) (offer_tx s p .station f) (offer_queue s p f)

/-- A FIFO that held a frame before an offer holds one behind it. -/
theorem offer_fifo_ne (p : PortId) (f : Frame) (h : (s.port (otherPort p)).fifo.length ≠ 0) :
    ((s.offer p f).port (otherPort p)).fifo ≠ [] := by
  rw [(offer_ports s p f).1]
  unfold State.joinedBy
  dsimp only
  split
  · exact fun hnil => h (by rw [hnil]; rfl)
  · simp

theorem sendable_congr {p : PortId} {v : Transmitter} (hslots : (t.port p).slots = (s.port p).slots)
    (hfits : s.queueFits v → t.queueFits v) (h : s.sendable p v) : t.sendable p v :=
  ⟨h.busy, fun hv => by unfold Port.responseWaits; rw [hslots]; exact h.response hv, h.station, hfits h.queue⟩

/-- What a passing frame leaves at the arbiter of the port that it goes toward, with the order of the two blocks' doings free
(R147). -/
def frameChoice (s acted offered : State) (p : PortId) : Transmitter × Nat :=
  let q := offered.port (otherPort p)
  let up := decide (q.status = .up)
  let a := frameFirst up (s.ownFrame (otherPort p)) (acted.ownFrame (otherPort p)) q.fifo.length (q.tx, q.forwarded)
  let b := blocksFirst up (s.ownFrame (otherPort p)) (acted.ownFrame (otherPort p))
    (acted.port (otherPort p)).fifo.length q.fifo.length (q.tx, q.forwarded)
  if q.justUp then offered.firstChoice (otherPort p)
  else if a = b then a else if Config.transitFirst s.freeDraws then a else b

/-- A frame that passes: the blocks, the offer, and the arbiters of both ports. -/
theorem passFrame_eq (s : State) (p : PortId) (f : Frame) (act : State → State) :
    ∃ draws, passFrame s p f act = settlePort s p
      { ((act s).offer p f).modPort (otherPort p) fun q => q.withArbiter (frameChoice s (act s) ((act s).offer p f) p) with
        freeDraws := draws } := ⟨_, rfl⟩

theorem lineOk_of_draws {draws : Nat} (hs : s.lineOk) : { s with freeDraws := draws }.lineOk :=
  ⟨hs.field, hs.station, hs.reports, hs.queue⟩

theorem settledAt_of_draws {draws : Nat} {p : PortId} (hs : s.settledAt p) : { s with freeDraws := draws }.settledAt p := by
  cases p <;> exact hs

theorem withArbiter_withArbiter (s : State) (p : PortId) (x y : Transmitter × Nat) :
    ((s.modPort p fun q => q.withArbiter x).modPort p fun q => q.withArbiter y) = s.modPort p fun q => q.withArbiter y := by
  cases p <;> rfl

/-- The arbiter of a port over all that waits there, from any choice that fits. -/
theorem choice_lineOk {p : PortId} {x : Transmitter × Nat} (hx : s.fits p x) (hfree : x.1 = .free → (s.port p).tx = .free)
    (hs : s.lineOk) :
    let u := s.modPort p fun q => q.withArbiter
      (chooseNext ((s.port p).status = .up) (s.ownFrame p) (s.port p).fifo.length x)
    u.lineOk ∧ u.settledAt p :=
  ⟨withArbiter_lineOk (fits_chooseNext hx (ownFrame_sendable s p) fun h hnil => h (by rw [hnil]; rfl)) hs,
    withArbiter_settledAt hfree⟩

/-- The first choice of a port that goes UP at this instant (R143, R161). -/
theorem firstChoice_lineOk (p : PortId) (hs : s.lineOk) :
    let u := s.modPort p fun q => q.withArbiter (s.firstChoice p)
    u.lineOk ∧ u.settledAt p := by
  have hfresh : s.fits p (.free, 0) :=
    ⟨⟨Nat.zero_le _, fun _ => ⟨rfl, rfl⟩, fun _ => by simp, fun h => (by cases h), fun h => (by cases h)⟩,
      fun _ _ h => (by cases h), queueFits_of_other fun _ _ => by simp⟩
  have hu := withArbiter_lineOk hfresh hs
  have htx : ((s.modPort p fun q => q.withArbiter (.free, 0)).port p).tx = .free := by
    rw [modPort_port]
    rfl
  have hfree : (s.modPort p fun q => q.withArbiter (.free, 0)).fits p (.free, 0) :=
    ⟨⟨Nat.zero_le _, fun _ => ⟨rfl, rfl⟩, fun _ => by simp, fun h => (by cases h), fun h => (by cases h)⟩,
      fun _ _ h => (by cases h), queueFits_of_other fun _ _ => by simp⟩
  have hchosen := choice_lineOk hfree (fun _ => htx) hu
  dsimp only at hchosen ⊢
  rw [withArbiter_withArbiter] at hchosen
  exact hchosen

/-- The port toward which a frame goes is in order and settled, whichever order its arbiter saw (R147, R149, R152). -/
theorem frameChoice_lineOk {acted : State} (p : PortId) (f : Frame) (hacts : Acts s acted) (hs : s.lineOk) :
    let offered := acted.offer p f
    let u := offered.modPort (otherPort p) fun q => q.withArbiter (frameChoice s acted offered p)
    u.lineOk ∧ u.settledAt (otherPort p) := by
  have hacted := hacts.lineOk hs
  have hoffered := offer_lineOk p f hacted
  have hfits := hoffered.fits (otherPort p)
  have hqueue : ∀ v, acted.queueFits v → (acted.offer p f).queueFits v := fun v => queueFits_congr (offer_queue acted p f)
  have hafter : ∀ v, acted.ownFrame (otherPort p) = some v → (acted.offer p f).sendable (otherPort p) v := fun v hv =>
    sendable_congr (offer_slots acted p f) (hqueue v) (ownFrame_sendable acted _ v hv)
  have hslots : ((acted.offer p f).port (otherPort p)).slots = (s.port (otherPort p)).slots :=
    (offer_slots acted p f).trans (by rw [Acts.port_eq hacts])
  have hbefore : ∀ v, s.ownFrame (otherPort p) = some v → (acted.offer p f).sendable (otherPort p) v := fun v hv =>
    sendable_congr hslots (fun h => hqueue v (hacts.queueKept ⟨(queueOk_iff.mp hs.queue).1, h⟩).2)
      (ownFrame_sendable s _ v hv)
  have hwaiting : ((acted.offer p f).port (otherPort p)).fifo.length ≠ 0 → ((acted.offer p f).port (otherPort p)).fifo ≠ [] :=
    fun h hnil => h (by rw [hnil]; rfl)
  have hown := offer_ownFrame acted p f
  dsimp only
  unfold frameChoice frameFirst blocksFirst
  dsimp only
  split
  · exact firstChoice_lineOk _ hoffered
  rw [← hown] at hafter ⊢
  have hframe := choice_lineOk (fits_beginWait (s.ownFrame (otherPort p)).isSome ((acted.offer p f).ownFrame (otherPort p)).isSome
    (fits_chooseNext hfits hbefore hwaiting)) (fun h => by
      rw [beginWait_fst] at h
      exact (chooseNext_free hbefore h).1) hoffered
  have hblocks := choice_lineOk (fits_chooseNext (fits_beginWait (s.ownFrame (otherPort p)).isSome
    ((acted.offer p f).ownFrame (otherPort p)).isSome hfits) hafter (offer_fifo_ne (s := acted) p f)) (fun h => by
      have h := (chooseNext_free hafter h).1
      rwa [beginWait_fst] at h) hoffered
  split
  · exact hframe
  · split
    · exact hframe
    · exact hblocks

theorem passFrame_linkOk (p : PortId) (f : Frame) (act : State → State) (hacts : Acts s (act s)) (hs : s.lineOk) :
    (passFrame s p f act).linkOk ∧ (passFrame s p f act).queueOk := by
  obtain ⟨draws, heq⟩ := passFrame_eq s p f act
  obtain ⟨hline, hsettled⟩ := frameChoice_lineOk p f hacts hs
  rw [heq]
  refine linkOk_queueOk_iff.mpr ⟨settlePort_lineOk s p (lineOk_of_draws hline), fun q => ?_⟩
  by_cases hq : q = p
  · rw [hq]
    exact settlePort_settledAt s p
  · have hother : q = otherPort p := by cases p <;> cases q <;> simp_all [otherPort]
    rw [hother] at hq ⊢
    exact modPort_settledAt hq (settledAt_of_draws hsettled)

/-! ## Requests (R154, R155) -/

theorem receives_up {p : PortId} (h : s.receives p = true) : (s.port p).status = .up := by
  unfold State.receives at h
  exact of_decide_eq_true (Bool.and_eq_true_iff.mp h).2

theorem Port.ok.refuses {q : Port} (hq : q.ok) :
    { q with unanswered := countUp Config.portCounterMax q.unanswered }.ok := by
  obtain ⟨hbounds, hdown, hjust, harbiter⟩ := q.ok_iff.mp hq
  exact (Port.ok_iff _).mpr ⟨{ hbounds with unanswered := Nat.min_le_left _ _ }, hdown, hjust, { harbiter with }⟩

theorem Port.ok.reserves {q : Port} {slot : Slot} (hq : q.ok) (hup : q.status = .up) (hroom : q.slots.length < 2) :
    { q with slots := q.slots ++ [slot] }.ok := by
  obtain ⟨hbounds, -, hjust, harbiter⟩ := q.ok_iff.mp hq
  refine (Port.ok_iff _).mpr ⟨{ hbounds with slots := by simpa using hroom }, fun h => absurd (hup.symm.trans h) (by decide),
    hjust, { harbiter with response := fun h => ?_ }⟩
  have hwaits := harbiter.response h
  unfold Port.responseWaits at hwaits ⊢
  dsimp only
  cases hslots : q.slots with
  | nil => simp [hslots] at hwaits
  | cons first rest => rwa [hslots] at hwaits

theorem Port.ok.fills {q : Port} {f : Frame} {key : Bool} (hq : q.ok) (hup : q.status = .up) :
    { q with slots := q.slots.dropLast ++ [Slot.filled f key] }.ok := by
  obtain ⟨hbounds, -, hjust, harbiter⟩ := q.ok_iff.mp hq
  refine (Port.ok_iff _).mpr ⟨{ hbounds with slots := ?_ }, fun h => absurd (hup.symm.trans h) (by decide),
    hjust, { harbiter with response := fun h => ?_ }⟩
  · have := hbounds.slots
    simp only [List.length_append, List.length_dropLast, List.length_singleton]
    omega
  · have hwaits := harbiter.response h
    unfold Port.responseWaits at hwaits ⊢
    dsimp only
    cases hslots : q.slots with
    | nil => rfl
    | cons first rest =>
      rw [hslots] at hwaits
      cases rest with
      | nil => rfl
      | cons => exact hwaits

theorem fillNewest_lineOk {p : PortId} {id : BitVec 16} {src : Byte} {j : Judgement} (hup : (s.port p).status = .up)
    (hs : s.lineOk) : (s.fillNewest p id src j).lineOk := by
  unfold State.fillNewest
  split
  · exact hs
  · exact modPort_lineOk ((hs.port p).fills hup) (.inl rfl) hs

theorem takeRequest_lineOk {r : Request} {a : Asked} {judge : State → Judgement} (hreceives : s.receives r.port = true)
    (hjudge : ∀ u, (judge u).Sound u) (hs : s.lineOk) : (s.takeRequest r.port r.id r.src a judge).lineOk := by
  have hup := receives_up hreceives
  unfold State.takeRequest
  split
  · exact modPort_lineOk (hs.port _).refuses (.inl rfl) hs
  next hroom =>
    have hreserved : (s.reserveSlot r.port r.id r.src).lineOk :=
      modPort_lineOk ((hs.port _).reserves hup (Nat.not_le.mp hroom)) (.inl rfl) hs
    have hstatus : ((s.reserveSlot r.port r.id r.src).port r.port).status = .up := by
      rw [modPort_port]
      exact hup
    obtain ⟨hacts, hprogress⟩ := hjudge (s.reserveSlot r.port r.id r.src)
    dsimp only
    generalize judge (s.reserveSlot r.port r.id r.src) = j at hacts hprogress
    have hall := hacts.trans (answered_acts j a hprogress)
    refine fillNewest_lineOk ?_ (Acts.lineOk hall hreserved)
    rw [Acts.port_eq hall]
    exact hstatus

/-! ## Time, and the part outside operation -/

theorem Port.ok.later {q : Port} (hq : q.ok) : q.later.ok := by
  obtain ⟨hbounds, hdown, -, harbiter⟩ := q.ok_iff.mp hq
  exact (Port.ok_iff _).mpr ⟨{ hbounds with }, hdown, fun h => (by cases h), { harbiter with gap := fun h => by cases h }⟩

theorem microsecond_linkOk (hrunning : s.phase = .running) (hs : s.lineOk ∧ ∀ p, s.settledAt p) :
    s.microsecond.linkOk ∧ s.microsecond.queueOk := by
  obtain ⟨hline, hsettled⟩ := hs
  have hfield : s.microsecond.field = s.field.later := by
    rw [State.microsecond, if_pos hrunning]
    dsimp only
    split <;> rfl
  have hstation : s.microsecond.station = s.station.later := by
    rw [State.microsecond, if_pos hrunning]
    dsimp only
    split <;> rfl
  have hqueue : s.microsecond.queue = s.queue := by
    rw [State.microsecond, if_pos hrunning]
    dsimp only
    split <;> rfl
  have htx : s.microsecond.station.tx = s.station.tx := by rw [hstation]; rfl
  have hport : ∀ p, s.microsecond.port p = (s.port p).later := fun p => by cases p <;> assumption
  obtain ⟨hbounds, hfits⟩ := queueOk_iff.mp hline.queue
  refine linkOk_queueOk_iff.mpr ⟨⟨?_, ?_, ?_, queueOk_iff.mpr ⟨queueBounds_congr hqueue hbounds, ?_⟩⟩, fun p hup hfree => ?_⟩
  · rw [hfield]
    exact hline.field.later
  · rw [hstation]
    exact hline.station.later
  · rw [hfield]
    exact hline.reports
  · rw [htx]
    exact queueFits_congr hqueue hfits
  · rw [ownFrame_congr (by rw [hport]; rfl) htx hqueue]
    rw [hport] at hup hfree ⊢
    exact hsettled p hup hfree

/-- Outside operation the ports are DOWN and nothing waits (R186, R187). -/
theorem linkOk_of_rest (hs : s.restOk) (hphase : s.phase ≠ .running) :
    (s.lineOk ∧ ∀ p, s.settledAt p) ∧ ∀ p, (s.port p).status = .down := by
  obtain ⟨heq, -⟩ := hs hphase
  have hdown : ∀ p, (s.port p).status = .down := fun p => by
    rw [heq]
    cases p <;> rfl
  refine ⟨⟨?_, fun p hup => absurd (hup.symm.trans (hdown p)) (by decide)⟩, hdown⟩
  rw [heq]
  exact ⟨Port.atReset_ok, Port.atReset_ok, fun _ _ => by simp [State.reset, Port.atReset],
    Nat.zero_le _, Nat.zero_le _, fun h => absurd h (Nat.lt_irrefl 0), fun n l h => by cases h⟩

theorem finishReset_linkOk (hs : s.restOk) (kind : ResetKind) (celsius : Int) (tenths : Nat) (hphase : s.phase = .inReset kind) :
    (s.finishReset kind celsius tenths).linkOk ∧ (s.finishReset kind celsius tenths).queueOk := by
  obtain ⟨⟨hline, -⟩, hdown⟩ := linkOk_of_rest hs (by rw [hphase]; simp)
  have hcore := finishReset_core s kind celsius tenths
  have hfield : (s.finishReset kind celsius tenths).field = s.field := congrArg (fun x => x.2.2.2.1) hcore
  have hstation : (s.finishReset kind celsius tenths).station = s.station := congrArg (fun x => x.2.2.2.2) hcore
  have hqueue := (finishReset_strokes s kind celsius tenths).keeps (P := State.queueKept s.station.tx) Stroke.queueKept
    (queueOk_iff.mp hline.queue)
  refine linkOk_queueOk_iff.mpr ⟨⟨?_, ?_, ?_, ?_⟩, fun p hup => ?_⟩
  · rw [hfield]
    exact hline.field
  · rw [hstation]
    exact hline.station
  · rw [hfield]
    exact hline.reports
  · rw [queueOk_iff, hstation]
    exact hqueue
  · have hport : (s.finishReset kind celsius tenths).port p = s.port p := by cases p <;> assumption
    rw [hport, hdown] at hup
    cases hup

/-! ## Every step -/

theorem Failure.ok {f : Port → Port} {q : Port} (h : Failure f) (hq : q.ok) : (f q).ok := by
  obtain ⟨hbounds, hdown, hjust, harbiter⟩ := q.ok_iff.mp hq
  cases h with
  | crc => exact (Port.ok_iff _).mpr ⟨{ hbounds with crc := Nat.min_le_left _ _ }, hdown, hjust, { harbiter with }⟩
  | length => exact (Port.ok_iff _).mpr ⟨{ hbounds with length := Nat.min_le_left _ _ }, hdown, hjust, { harbiter with }⟩
  | stall => exact (Port.ok_iff _).mpr ⟨{ hbounds with stall := Nat.min_le_left _ _ }, hdown, hjust, { harbiter with }⟩

theorem counts_settledAt {p : PortId} {f : Port → Port} (h : Failure f) (q : PortId) (hs : s.settledAt q) :
    (s.modPort p f).settledAt q := by
  by_cases heq : q = p
  · subst heq
    cases h <;> (cases q <;> exact hs)
  · exact modPort_settledAt heq hs

/-- Every way of ending leaves the line side in order. -/
theorem Ends.linkOk (h : Ends s t) (hrest : s.restOk) (hs : s.lineOk ∧ ∀ p, s.settledAt p) : t.linkOk ∧ t.queueOk := by
  obtain ⟨hline, hsettled⟩ := hs
  have resting : t.restOk → t.phase ≠ .running → t.linkOk ∧ t.queueOk := fun ht hphase =>
    linkOk_queueOk_iff.mpr (linkOk_of_rest ht hphase).1
  cases h with
  | rests => exact linkOk_queueOk_iff.mpr ⟨hline, hsettled⟩
  | counts p f _ hf =>
    have htx : (f (s.port p)).tx = (s.port p).tx := by cases hf <;> rfl
    exact linkOk_queueOk_iff.mpr
      ⟨modPort_lineOk (hf.ok (hline.port p)) (.inl htx) hline, fun q => counts_settledAt hf q (hsettled q)⟩
  | event u _ hu => exact settle_linkOk s (hu.lineOk hline)
  | frame p f act _ hact => exact passFrame_linkOk p f act hact hline
  | request r a judge hreceives hjudge => exact settle_linkOk s (takeRequest_lineOk hreceives hjudge hline)
  | ends => exact resting (endOperation_restOk s) (by simp [State.endOperation, State.reset])
  | resets kind straps => exact resting (takeReset_restOk _ kind) (by simp [State.takeReset])
  | comesUp kind celsius tenths hphase => exact finishReset_linkOk hrest kind celsius tenths hphase

/-- Settles O13. -/
theorem linkKept : Obligations.LinkKept := by
  unfold Obligations.LinkKept
  intro s t hrest hs h
  have hs := linkOk_queueOk_iff.mp hs
  rcases step_ends h with ⟨_, rfl⟩ | ⟨rest, hends⟩
  · by_cases hrunning : s.phase = .running
    · exact microsecond_linkOk hrunning hs
    · rw [State.microsecond, if_neg hrunning]
      exact linkOk_queueOk_iff.mpr hs
  · refine hends.linkOk (fun hresting => ?_) ⟨⟨hs.1.field, hs.1.station, hs.1.reports, hs.1.queue⟩, fun p => ?_⟩
    · obtain ⟨heq, hoff, hreset⟩ := hrest hresting
      exact ⟨congrArg (fun u : State => { u with pending := rest }) heq, hoff, hreset⟩
    · have hsettled := hs.2 p
      cases p <;> exact hsettled

end Sys2Proof.Machine
end

section
/-! Settles O25, O26 and O28: TIME-MARKs and frames that no block acts on, list order, and console frames that the panel does
not obey. -/

namespace Sys2Proof.Machine

variable {s t : State}

/-! ## List order (R66) -/

/-- A stamp within 2^30 µs of the origin, before or behind it. -/
def nearOrigin (o x : Stamp) : Prop := (x - o).toNat < 2 ^ 30 ∨ (o - x).toNat ≤ 2 ^ 30

/-- An offset is a stamp shifted, so that it tells stamps apart. -/
theorem offsetFrom_eq_iff {o x y : Stamp} : offsetFrom o x = offsetFrom o y ↔ x = y := by
  unfold offsetFrom
  bv_omega

/-- Near the origin the smaller offset is the stamp that precedes. -/
theorem offsetFrom_lt_iff {o x y : Stamp} (hx : nearOrigin o x) (hy : nearOrigin o y) :
    offsetFrom o x < offsetFrom o y ↔ precedes x y = true := by
  unfold nearOrigin at hx hy
  unfold offsetFrom precedes
  simp only [ne_eq, decide_not, Bool.and_eq_true, Bool.not_eq_eq_eq_not, Bool.not_true, decide_eq_false_iff_not,
    decide_eq_true_eq]
  bv_omega

/-- Settles O26, by the offsets from the origin. -/
theorem listOrderIsPrecedence : Obligations.ListOrderIsPrecedence := by
  unfold Obligations.ListOrderIsPrecedence
  refine fun o x y => ⟨fun hx hy => ?_, sortsBefore_comm⟩
  rw [sortsBefore_iff, offsetFrom_eq_iff, offsetFrom_lt_iff hx hy]

/-! ## TIME-MARKs and other frames (R147, R156) -/

theorem takeTimeMark_of_stamp (s : State) (x : Stamp) : s.takeTimeMark (bytes32 x) = { s with clock := x } := by
  unfold State.takeTimeMark bytes32
  dsimp only
  rw [word32_bytes]

theorem takeTimeMark_of_length {body : List Byte} (h : body.length ≠ 4) (s : State) : s.takeTimeMark body = s := by
  unfold State.takeTimeMark
  split
  · exact absurd rfl h
  · rfl

theorem takeTimeMark_port (s : State) (body : List Byte) (q : PortId) : (s.takeTimeMark body).port q = s.port q := by
  unfold State.takeTimeMark
  split <;> cases q <;> rfl

/-- A frame whose blocks act by `act`, when that leaves the part as `u`, the ports aside. -/
theorem performFrame_updates {u : State} {p : PortId} {f : Frame} {act : State → State} (hreceives : s.receives p = true)
    (hact : act s = u) (hports : ∀ q, u.port q = s.port q) :
    ∃ t, performFrame s p f act = .next t ∧ s.passes t p f ∧ u.sameButPorts t := by
  obtain ⟨t, hnext, hpasses, ht⟩ := performFrame_passes (f := f) (act := act) hreceives fun q => by rw [hact, hports]
  exact ⟨t, hnext, hpasses, by rw [State.sameButPorts, ht, hact]⟩

theorem timeMark_taken {f : LinkFrame} (hreceives : s.receives f.port = true) :
    ∃ t, exec (.timeMark f) s = .next t ∧ s.passes t f.port ⟨4, f.dest, f.src, f.body⟩ ∧
      (∀ x : Stamp, f.body = bytes32 x → { s with clock := x }.sameButPorts t) ∧
      (f.body.length ≠ 4 → s.sameButPorts t) := by
  obtain ⟨t, hnext, hpasses, ht⟩ := performFrame_updates (f := ⟨4, f.dest, f.src, f.body⟩)
    (act := fun s => s.takeTimeMark f.body) hreceives rfl (takeTimeMark_port s f.body)
  refine ⟨t, hnext, hpasses, fun x hbody => ?_, fun hlength => ?_⟩
  · rw [hbody, takeTimeMark_of_stamp] at ht
    exact ht
  · rw [takeTimeMark_of_length hlength] at ht
    exact ht

theorem otherFrame_passes {p : PortId} {f : Frame} (hreceives : s.receives p = true) (hother : s.noBlockActs f = true) :
    ∃ t, exec (.otherFrame p f) s = .next t ∧ s.passes t p f ∧ s.sameButPorts t := by
  have hexec : exec (.otherFrame p f) s = performFrame s p f id := if_pos hother
  rw [hexec]
  exact performFrame_updates hreceives rfl fun _ => rfl

/-- Settles O25. -/
theorem timeMarksAndOtherFrames : Obligations.TimeMarksAndOtherFrames := by
  unfold Obligations.TimeMarksAndOtherFrames
  exact ⟨fun _ _ => timeMark_taken, fun _ _ _ => otherFrame_passes⟩

/-! ## Console frames that are not obeyed (R103, R105) -/

/-- Settles O28, a console command at a time. -/
theorem unmatchedConsoleFramesPass : Obligations.UnmatchedConsoleFramesPass := by
  unfold Obligations.UnmatchedConsoleFramesPass
  intro s c i code hcommand hreceives hunmatched
  have hidle : (consoleTaken c && s.matchesPanel c.dest) = false := by
    by_contra hobeyed
    obtain ⟨-, hmatched⟩ := (obeys_iff s c).mpr ⟨hreceives, Bool.not_eq_false _ ▸ hobeyed⟩
    exact hunmatched hmatched
  have passes : ∀ act, ∃ t, performConsole s c code act = .next t ∧ s.passes t c.port (consoleFrame c code) ∧
      s.sameButPorts t := fun act => performConsole_unobeyed hreceives hidle
  simp only [consoleCommands, List.mem_cons, Prod.mk.injEq, List.not_mem_nil, or_false] at hcommand
  rcases hcommand with ⟨rfl, rfl⟩ | ⟨rfl, rfl⟩ | ⟨rfl, rfl⟩ | ⟨rfl, rfl⟩ | ⟨rfl, rfl⟩ | ⟨rfl, rfl⟩ | ⟨rfl, rfl⟩ | ⟨rfl, rfl⟩ <;>
    exact passes _

end Sys2Proof.Machine
end

section
/-! Settles O35, O36, O37 and the first part of O40: what all management requests share (R146, R154, R164, R165, R191). -/

namespace Sys2Proof.Machine

variable {s t : State}

/-! ## Requests that find no slot (R154) -/

/-- A request that finds no EMPTY slot is counted, whatever it asks. -/
theorem performRequest_unanswered {r : Request} {a : Asked} {judge : State → Judgement} (hreceives : s.receives r.port = true)
    (hfull : 2 ≤ (s.port r.port).slots.length) :
    ∃ t, performRequest s r a judge = .next t ∧ t = { s with field := t.field, station := t.station } ∧
      Port.sameButArbiter { s.port r.port with unanswered := min 65535 ((s.port r.port).unanswered + 1) } (t.port r.port) ∧
      (s.port (otherPort r.port)).sameButArbiter (t.port (otherPort r.port)) := by
  have htaken : s.takeRequest r.port r.id r.src a judge =
      s.modPort r.port fun q => { q with unanswered := countUp Config.portCounterMax q.unanswered } := if_pos hfull
  refine ⟨_, performRequest_received hreceives, ?_, ?_, ?_⟩
  · rw [settle_eq, htaken, modPort_view]
  · have hport := settle_port s (s.takeRequest r.port r.id r.src a judge) r.port
    rw [htaken, modPort_port] at hport
    rw [htaken]
    exact hport
  · have hport := settle_port s (s.takeRequest r.port r.id r.src a judge) (otherPort r.port)
    rw [htaken, modPort_other] at hport
    rw [htaken]
    exact hport

/-! ## The requests, a row at a time -/

/-- What a request that is no WRITE and no READ checks first: its length, and whether it must wait (R164, R165, R191). -/
structure RequestRow (r : Request) (i : Instr) (a : Asked) (judge : State → Judgement) : Prop where
  exec : ∀ s, exec i s = performRequest s r a judge
  length : r.args.length ≠ argBytes a.code → ∀ u, judge u = refuse u .badLength
  flight : a.code = 4 ∨ a.code = 9 ∨ a.code = 10 ∨ a.code = 11 → r.args.length = argBytes a.code →
    ∀ u, u.management.flight.isSome = true → judge u = refuse u .busy
  pending : a.code = 10 ∨ a.code = 11 ∨ a.code = 16 → r.args.length = argBytes a.code →
    ∀ u, u.management.pendingReset.isSome = true → judge u = refuse u .busy

theorem unlessFlight_busy {j : Judgement} (h : s.management.flight.isSome = true) : unlessFlight s j = refuse s .busy :=
  if_pos h

theorem unlessHeldBack_flight {j : Judgement} (h : s.management.flight.isSome = true) :
    unlessHeldBack s j = refuse s .busy := if_pos (by rw [h]; rfl)

theorem unlessHeldBack_pending {j : Judgement} (h : s.management.pendingReset.isSome = true) :
    unlessHeldBack s j = refuse s .busy := if_pos (by rw [h, Bool.or_true])

theorem judgeService_length {args : List Byte} (h : args.length ≠ 2) (s : State) :
    s.judgeService args = refuse s .badLength := by
  unfold State.judgeService
  split
  · exact absurd rfl h
  · rfl

theorem judgeService_busy {args : List Byte} (h : args.length = 2) (hflight : s.management.flight.isSome = true) :
    s.judgeService args = refuse s .busy := by
  obtain ⟨p, st, rfl⟩ := List.length_eq_two.mp h
  exact unlessFlight_busy hflight

theorem judgeLock_length {args : List Byte} {l : Lock} (h : args.length ≠ 1) (s : State) :
    s.judgeLock l args = refuse s .badLength := by
  unfold State.judgeLock
  split
  · exact absurd rfl h
  · rfl

theorem judgeProtect_length {args : List Byte} (h : args.length ≠ 3) (s : State) :
    s.judgeProtect args = refuse s .badLength := by
  unfold State.judgeProtect
  split
  · exact absurd rfl h
  · rfl

theorem judgeProtect_busy {args : List Byte} (h : args.length = 3) (hflight : s.management.flight.isSome = true) :
    s.judgeProtect args = refuse s .busy := by
  obtain ⟨a, b, c, rfl⟩ := List.length_eq_three.mp h
  exact unlessFlight_busy hflight

theorem judgeSetMode_length {args : List Byte} (h : args.length ≠ 1) (s : State) :
    s.judgeSetMode args = refuse s .badLength := by
  unfold State.judgeSetMode
  split
  · exact absurd rfl h
  · rfl

theorem judgeKey_length {args : List Byte} (h : args.length ≠ 1) (s : State) : s.judgeKey args = refuse s .badLength := by
  unfold State.judgeKey
  split
  · exact absurd rfl h
  · rfl

theorem judgeKey_busy {args : List Byte} (h : args.length = 1) (hpending : s.management.pendingReset.isSome = true) :
    s.judgeKey args = refuse s .busy := by
  obtain ⟨key, rfl⟩ := List.length_eq_one_iff.mp h
  exact if_pos hpending

/-- A request without arguments that waits for nothing. -/
theorem noArgs_row {r : Request} {i : Instr} {a : Asked} {judge : State → Judgement}
    (hexec : ∀ s, exec i s = performRequest s r a fun s => noArgs s r.args (judge s)) (hbytes : argBytes a.code = 0)
    (hflight : a.code = 4 ∨ a.code = 9 ∨ a.code = 10 ∨ a.code = 11 →
      ∀ u, u.management.flight.isSome = true → judge u = refuse u .busy)
    (hpending : a.code = 10 ∨ a.code = 11 ∨ a.code = 16 →
      ∀ u, u.management.pendingReset.isSome = true → judge u = refuse u .busy) :
    RequestRow r i a fun s => noArgs s r.args (judge s) where
  exec := hexec
  length h u := noArgs_wrong u r.args _ (hbytes ▸ h)
  flight hcode h u hu := by
    rw [hbytes, List.length_eq_zero_iff] at h
    rw [h]
    exact hflight hcode u hu
  pending hcode h u hu := by
    rw [hbytes, List.length_eq_zero_iff] at h
    rw [h]
    exact hpending hcode u hu

theorem service_row {r : Request} {i : Instr} (hexec : ∀ s, exec i s =
    performRequest s r { code := 4, table := none, index := r.args.head? } fun s => s.judgeService r.args) :
    RequestRow r i { code := 4, table := none, index := r.args.head? } fun s => s.judgeService r.args where
  exec := hexec
  length h := judgeService_length h
  flight _ h _ := judgeService_busy h
  pending h := absurd h (by simp)

theorem lock_row {r : Request} {i : Instr} {code : Byte} (l : Lock) (hcode : code = 5 ∨ code = 6) (hexec : ∀ s, exec i s =
    performRequest s r { code, table := none, index := r.args.head? } fun s => s.judgeLock l r.args) :
    RequestRow r i { code, table := none, index := r.args.head? } fun s => s.judgeLock l r.args where
  exec := hexec
  length h := by rcases hcode with rfl | rfl <;> exact judgeLock_length h
  flight h := by rcases hcode with rfl | rfl <;> exact absurd h (by simp)
  pending h := by rcases hcode with rfl | rfl <;> exact absurd h (by simp)

/-- Every request that is no WRITE and no READ is a row. -/
theorem requestCommands_row {r : Request} {i : Instr} {a : Asked} (h : (i, a) ∈ requestCommands r) :
    ∃ judge, RequestRow r i a judge := by
  simp only [requestCommands, List.mem_cons, Prod.mk.injEq, List.not_mem_nil, or_false] at h
  rcases h with ⟨rfl, rfl⟩ | ⟨rfl, rfl⟩ | ⟨rfl, rfl⟩ | ⟨rfl, rfl⟩ | ⟨rfl, rfl⟩ | ⟨rfl, rfl⟩ | ⟨rfl, rfl⟩ | ⟨rfl, rfl⟩ |
    ⟨rfl, rfl⟩ | ⟨rfl, rfl⟩ | ⟨rfl, rfl⟩ | ⟨rfl, rfl⟩ | ⟨rfl, rfl⟩ | ⟨rfl, rfl⟩ | ⟨rfl, rfl⟩
  · exact ⟨_, noArgs_row (judge := State.judgeReadNext) (fun _ => rfl) rfl (absurd · (by decide)) (absurd · (by decide))⟩
  · exact ⟨_, service_row fun _ => rfl⟩
  · exact ⟨_, service_row fun _ => rfl⟩
  · exact ⟨_, lock_row .locked (.inl rfl) fun _ => rfl⟩
  · exact ⟨_, lock_row .unlocked (.inr rfl) fun _ => rfl⟩
  · exact ⟨_, noArgs_row (judge := fun s => s.judgeLockAll .locked) (fun _ => rfl) rfl (absurd · (by decide))
      (absurd · (by decide))⟩
  · exact ⟨_, noArgs_row (judge := fun s => s.judgeLockAll .unlocked) (fun _ => rfl) rfl (absurd · (by decide))
      (absurd · (by decide))⟩
  · exact ⟨fun s => s.judgeProtect r.args, fun _ => rfl, judgeProtect_length, fun _ h _ => judgeProtect_busy h,
      (absurd · (by decide))⟩
  · exact ⟨_, noArgs_row (judge := State.judgeFreeze) (fun _ => rfl) rfl (fun _ _ => unlessHeldBack_flight)
      fun _ _ => unlessHeldBack_pending⟩
  · exact ⟨_, noArgs_row (judge := State.judgeStore) (fun _ => rfl) rfl (fun _ _ => unlessHeldBack_flight)
      fun _ _ => unlessHeldBack_pending⟩
  · exact ⟨_, noArgs_row (judge := fun s => done s.clearAllHealth) (fun _ => rfl) rfl (absurd · (by decide))
      (absurd · (by decide))⟩
  · exact ⟨_, noArgs_row (judge := fun s => done s.clearRefusal) (fun _ => rfl) rfl (absurd · (by decide))
      (absurd · (by decide))⟩
  · exact ⟨fun s => s.judgeSetMode r.args, fun _ => rfl, judgeSetMode_length, (absurd · (by decide)), (absurd · (by decide))⟩
  · exact ⟨_, noArgs_row (judge := fun s => answer s s.statusRecord) (fun _ => rfl) rfl (absurd · (by decide))
      (absurd · (by decide))⟩
  · exact ⟨fun s => s.judgeKey r.args, fun _ => rfl, judgeKey_length, (absurd · (by decide)), fun _ h _ => judgeKey_busy h⟩

/-! ## The WRITE rows (R164, R165, R170, R191) -/

section Parsing
variable {rec : List Byte}

theorem parsePanel_isSome (now : Panel) : (parsePanel now rec).isSome = true ↔ rec.length = 19 := by
  unfold parsePanel
  split
  · simp
  next hform =>
    refine ⟨fun h => (by cases h), fun hlength => ?_⟩
    match rec, hlength with
    | [_, _, _, _, _, _, _, _, _, _, _, _, _, _, _, _, _, _, _], _ => exact absurd rfl (hform _ _ _ _ _ _ _ _ _ _ _ _ _ _ _ _ _ _ _)

theorem parseSource_isSome : (parseSource rec).isSome = true ↔ rec.length = 7 := by
  unfold parseSource
  split
  · simp
  next hform =>
    refine ⟨fun h => (by cases h), fun hlength => ?_⟩
    match rec, hlength with
    | [_, _, _, _, _, _, _], _ => exact absurd rfl (hform _ _ _ _ _ _ _)

theorem parsePoint_isSome : (parsePoint rec).isSome = true ↔ rec.length = 14 := by
  unfold parsePoint
  split
  · simp
  next hform =>
    refine ⟨fun h => (by cases h), fun hlength => ?_⟩
    match rec, hlength with
    | [_, _, _, _, _, _, _, _, _, _, _, _, _, _], _ => exact absurd rfl (hform _ _ _ _ _ _ _ _ _ _ _ _ _ _)

theorem parseWindow_isSome : (parseWindow rec).isSome = true ↔ rec.length = 5 := by
  unfold parseWindow
  split
  · simp
  next hform =>
    refine ⟨fun h => (by cases h), fun hlength => ?_⟩
    match rec, hlength with
    | [_, _, _, _, _], _ => exact absurd rfl (hform _ _ _ _ _)

theorem parseColour_isSome : (parseColour rec).isSome = true ↔ rec.length = 3 := by
  unfold parseColour
  split
  · simp
  next hform =>
    refine ⟨fun h => (by cases h), fun hlength => ?_⟩
    obtain ⟨_, _, _, rfl⟩ := List.length_eq_three.mp hlength
    exact absurd rfl (hform _ _ _)

theorem parseGroup_isSome : (parseGroup rec).isSome = true ↔ rec.length = 2 := by
  unfold parseGroup
  split
  · simp
  next hform =>
    refine ⟨fun h => (by cases h), fun hlength => ?_⟩
    obtain ⟨_, _, rfl⟩ := List.length_eq_two.mp hlength
    exact absurd rfl (hform _ _)

theorem parseTrip_isSome : (parseTrip rec).isSome = true ↔ rec.length = 7 := by
  unfold parseTrip
  split
  · simp
  next hform =>
    refine ⟨fun h => (by cases h), fun hlength => ?_⟩
    match rec, hlength with
    | [_, _, _, _, _, _, _], _ => exact absurd rfl (hform _ _ _ _ _ _ _)

theorem parseLampMask_isSome : (parseLampMask rec).isSome = true ↔ rec.length = 1 := by
  unfold parseLampMask
  split
  · simp
  next hform =>
    refine ⟨fun h => (by cases h), fun hlength => ?_⟩
    obtain ⟨_, rfl⟩ := List.length_eq_one_iff.mp hlength
    exact absurd rfl (hform _)

end Parsing

section Writes
variable {α : Type} {n k : Nat} {i : Byte} {rec args : List Byte} {parse : List Byte → Option (Option α)}
  {own : Fin n → α → Judgement}

theorem judgeWrite_length (hparse : ∀ rec, (parse rec).isSome = true ↔ rec.length = k) (h : args.length ≠ 1 + k)
    (s : State) : s.judgeWrite n args parse own = refuse s .badLength := by
  unfold State.judgeWrite
  split
  · rfl
  next i rec =>
    have hnone : parse rec = none := by
      rw [← Option.not_isSome_iff_eq_none, hparse]
      intro hlength
      rw [List.length_cons] at h
      omega
    rw [hnone]

/-- The index of a WRITE first, and then its values (R164). -/
def State.judgeValue (s : State) (n : Nat) (i : Byte) (value : Option α) (own : Fin n → α → Judgement) : Judgement :=
  match index? n i.toNat with
  | none => refuse s .badIndex
  | some i =>
    match value with
    | none => refuse s .badValue
    | some x => own i x

/-- A WRITE of the right length waits for a STORE or FREEZE-TRIP, and has its index examined next (R164, R165). -/
theorem judgeWrite_parsed {value : Option α} (h : parse rec = some value) (s : State) :
    s.judgeWrite n (i :: rec) parse own = unlessFlight s (s.judgeValue n i value own) := by
  unfold State.judgeWrite
  dsimp only
  generalize parse rec = parsed at h
  subst h
  rfl

theorem judgeWrite_busy (hparse : ∀ rec, (parse rec).isSome = true ↔ rec.length = k) (h : args.length = 1 + k)
    (hflight : s.management.flight.isSome = true) : s.judgeWrite n args parse own = refuse s .busy := by
  cases args with
  | nil =>
    rw [List.length_nil] at h
    omega
  | cons i rec =>
    obtain ⟨value, hvalue⟩ := Option.isSome_iff_exists.mp ((hparse rec).mpr (by rw [List.length_cons] at h; omega))
    rw [judgeWrite_parsed hvalue]
    exact unlessFlight_busy hflight

theorem unlessFlight_none {j : Judgement} (h : s.management.flight = none) : unlessFlight s j = j :=
  if_neg (by rw [h]; decide)

theorem judgeWrite_beyond (hparse : ∀ rec, (parse rec).isSome = true ↔ rec.length = k) (h : rec.length = k)
    (hflight : s.management.flight = none) (hbeyond : n ≤ i.toNat) :
    s.judgeWrite n (i :: rec) parse own = refuse s .badIndex := by
  obtain ⟨value, hvalue⟩ := Option.isSome_iff_exists.mp ((hparse rec).mpr h)
  rw [judgeWrite_parsed hvalue, unlessFlight_none hflight, State.judgeValue, index?_none.mpr hbeyond]

theorem judgeWrite_bad (hparse : parse rec = some none) (hflight : s.management.flight = none) (hin : i.toNat < n) :
    s.judgeWrite n (i :: rec) parse own = refuse s .badValue := by
  rw [judgeWrite_parsed hparse, unlessFlight_none hflight, State.judgeValue]
  have hindex : index? n i.toNat = some ⟨i.toNat, hin⟩ := index?_val ⟨i.toNat, hin⟩
  rw [hindex]

end Writes

/-- What a WRITE to a configuration table checks first (R164, R165, R191). -/
structure WriteRow (r : Request) (i : Instr) (x : TableId) (judge : State → Judgement) : Prop where
  exec : ∀ s, exec i s = performWrite s r x judge
  length : r.args.length ≠ 1 + x.recordBytes → ∀ u, judge u = refuse u .badLength
  busy : r.args.length = 1 + x.recordBytes → ∀ u, u.management.flight.isSome = true → judge u = refuse u .busy
  beyond : ∀ index rec, r.args = index :: rec → rec.length = x.recordBytes → x.size ≤ index.toNat →
    ∀ u, u.management.flight = none → judge u = refuse u .badIndex

theorem writeRow_of {α : Type} {r : Request} {i : Instr} {x : TableId} {parse : State → List Byte → Option (Option α)}
    {own : State → Fin x.size → α → Judgement}
    (hexec : ∀ s, exec i s = performWrite s r x fun s => s.judgeWrite x.size r.args (parse s) (own s))
    (hparse : ∀ s rec, (parse s rec).isSome = true ↔ rec.length = x.recordBytes) :
    WriteRow r i x fun s => s.judgeWrite x.size r.args (parse s) (own s) where
  exec := hexec
  length h u := judgeWrite_length (hparse u) h u
  busy h u hu := judgeWrite_busy (hparse u) h hu
  beyond index rec hargs h hbeyond u hu := by
    rw [hargs]
    exact judgeWrite_beyond (hparse u) h hu hbeyond

/-- Every WRITE to a configuration table is a row. -/
theorem writeCommands_row {r : Request} {i : Instr} {x : TableId} (h : (i, x) ∈ writeCommands r) :
    ∃ judge, WriteRow r i x judge := by
  simp only [writeCommands, List.mem_cons, Prod.mk.injEq, List.not_mem_nil, or_false] at h
  rcases h with ⟨rfl, rfl⟩ | ⟨rfl, rfl⟩ | ⟨rfl, rfl⟩ | ⟨rfl, rfl⟩ | ⟨rfl, rfl⟩ | ⟨rfl, rfl⟩ | ⟨rfl, rfl⟩ | ⟨rfl, rfl⟩
  · exact ⟨_, writeRow_of (x := .panel) (parse := fun s => parsePanel s.tables.panel)
      (own := fun s i p => written (s.writePanel p) .panel i.val) (fun _ => rfl) fun s _ => parsePanel_isSome _⟩
  · exact ⟨_, writeRow_of (x := .source) (parse := fun _ => parseSource) (own := State.judgeSource) (fun _ => rfl)
      fun _ _ => parseSource_isSome⟩
  · exact ⟨_, writeRow_of (x := .point) (parse := fun _ => parsePoint) (own := State.judgePoint) (fun _ => rfl)
      fun _ _ => parsePoint_isSome⟩
  · exact ⟨_, writeRow_of (x := .window) (parse := fun _ => parseWindow) (own := fun s w x => written (s.writeWindow w x) .window w.val)
      (fun _ => rfl) fun _ _ => parseWindow_isSome⟩
  · exact ⟨_, writeRow_of (x := .palette) (parse := fun _ => parseColour) (own := fun s i x => written (s.writeColour i x) .palette i.val)
      (fun _ => rfl) fun _ _ => parseColour_isSome⟩
  · exact ⟨_, writeRow_of (x := .group) (parse := fun _ => parseGroup) (own := fun s g x => written (s.writeGroup g x) .group g.val)
      (fun _ => rfl) fun _ _ => parseGroup_isSome⟩
  · exact ⟨_, writeRow_of (x := .trip) (parse := fun _ => parseTrip) (own := State.judgeTrip) (fun _ => rfl) fun _ _ => parseTrip_isSome⟩
  · exact ⟨_, writeRow_of (x := .lampMask) (parse := fun _ => parseLampMask)
      (own := fun s w m => written (s.writeLampMask w m) .lampMask w.val) (fun _ => rfl) fun _ _ => parseLampMask_isSome⟩

/-! ## Unanswered requests -/

theorem badRequest_of_code {id : BitVec 16} {code : Byte} {args : List Byte} (h : code = 0 ∨ 17 ≤ code.toNat) :
    badRequest (bytes16 id.toNat ++ code :: args) = some (id, code, .badValue) := by
  have hcode : ¬(1 ≤ code.toNat ∧ code.toNat ≤ 16) := by
    rcases h with rfl | h
    · decide
    · omega
  unfold badRequest bytes16
  dsimp only [List.cons_append, List.nil_append]
  rw [if_neg hcode, word16_bytes _ id.isLt, BitVec.ofNat_toNat, BitVec.setWidth_eq]

theorem badRequestCode_of_code {r : Request} {code : Byte} (h : code = 0 ∨ 17 ≤ code.toNat) (s : State) :
    exec (.badRequestCode r.port r.src (bytes16 r.id.toNat ++ code :: r.args)) s =
      performRequest s { r with args := [] } (asked code none) fun s => refuse s .badValue := by
  show execBadRequestCode r.port r.src _ s = _
  unfold execBadRequestCode
  rw [badRequest_of_code h]

theorem writeReadOnlyTable_of {r : Request} {result : ResultCode} (h : readOnlyWrite r.args = some result) (s : State) :
    exec (.writeReadOnlyTable r) s =
      performRequest s r { code := 3, table := readOnlyTableByte r.args, index := r.args[1]? } fun s => refuse s result := by
  show execWriteReadOnlyTable r s = _
  unfold execWriteReadOnlyTable
  rw [h]

theorem readOnlyWrite_of_code {args : List Byte} (h : args = [] ∨ ∃ b rest, args = b :: rest ∧ 8 ≤ b.toNat) :
    ∃ result, readOnlyWrite args = some result := by
  rcases h with rfl | ⟨b, rest, rfl, hb⟩
  · exact ⟨_, rfl⟩
  · cases rest with
    | nil => exact ⟨_, if_pos hb⟩
    | cons => exact ⟨_, if_pos hb⟩

/-- Settles O35, a row of requests at a time. -/
theorem unansweredRequests : Obligations.UnansweredRequests := by
  unfold Obligations.UnansweredRequests
  intro s r i hrow hreceives hfull
  rcases hrow with hrow | hrow | rfl | ⟨rfl, hargs⟩ | ⟨code, hcode, rfl⟩
  · obtain ⟨⟨i, a⟩, hmem, rfl⟩ := List.mem_map.mp hrow
    obtain ⟨judge, hrow⟩ := requestCommands_row hmem
    dsimp only
    rw [hrow.exec]
    exact performRequest_unanswered hreceives hfull
  · obtain ⟨⟨i, x⟩, hmem, rfl⟩ := List.mem_map.mp hrow
    obtain ⟨judge, hrow⟩ := writeCommands_row hmem
    dsimp only
    rw [hrow.exec]
    exact performRequest_unanswered hreceives hfull
  · exact performRequest_unanswered (judge := fun s => s.judgeRead r.args) hreceives hfull
  · obtain ⟨result, hresult⟩ := readOnlyWrite_of_code hargs
    rw [writeReadOnlyTable_of hresult]
    exact performRequest_unanswered hreceives hfull
  · rw [badRequestCode_of_code hcode]
    exact performRequest_unanswered (r := { r with args := [] }) hreceives hfull

/-! ## Requests that are refused before they are looked at -/

theorem requestRow_refused {r : Request} {i : Instr} {a : Asked} {judge : State → Judgement} {result : ResultCode}
    (hrow : RequestRow r i a judge) (hadmits : s.admits r.port) (hjudge : judge (s.asTaken r) = refuse (s.asTaken r) result)
    (hresult : result ≠ .done) : ∃ t, exec i s = .next t ∧ s.refusal t r (a.note result) := by
  rw [hrow.exec]
  exact performRequest_refused hadmits hjudge hresult

theorem writeRow_refused {r : Request} {i : Instr} {x : TableId} {judge : State → Judgement} {result : ResultCode}
    (hrow : WriteRow r i x judge) (hadmits : s.admits r.port) (hjudge : judge (s.asTaken r) = refuse (s.asTaken r) result)
    (hresult : result ≠ .done) : ∃ t, exec i s = .next t ∧ s.refusal t r (writeNote r x result) := by
  rw [hrow.exec]
  exact performRequest_refused (a := { code := 3, table := some x.code, index := r.args.head? }) hadmits hjudge hresult

theorem judgeRead_length {args : List Byte} (h : args.length ≠ 3) (s : State) : s.judgeRead args = refuse s .badLength := by
  unfold State.judgeRead
  split
  · exact absurd rfl h
  · rfl

theorem readTableByte_length {args : List Byte} (h : args.length ≠ 3) : readTableByte args = args.head? := by
  unfold readTableByte
  split
  · exact absurd rfl h
  · rfl

theorem read_badLength {r : Request} (hadmits : s.admits r.port) (h : r.args.length ≠ 3) :
    ∃ t, exec (.read r) s = .next t ∧
      s.refusal t r { request := 1, table := r.args.head?, index := r.args[1]?, result := .badLength } := by
  rw [← readTableByte_length h]
  exact performRequest_refused (a := { code := 1, table := readTableByte r.args, index := r.args[1]? })
    (judge := fun s => s.judgeRead r.args) hadmits (judgeRead_length h _) (by decide)

theorem badRequest_of_short {id : BitVec 16} {b1 b0 : Byte} {body : List Byte}
    (hbody : body = [] ∧ b1 = 0 ∧ b0 = 0 ∨ body = [b1] ∧ b0 = 0 ∨ body = [b1, b0])
    (hid : id.toNat = b1.toNat * 256 + b0.toNat) : badRequest body = some (id, 0, .badLength) := by
  have hword : BitVec.ofNat 16 (word16 b1 b0) = id := by
    unfold word16
    rw [← hid, BitVec.ofNat_toNat, BitVec.setWidth_eq]
  rw [← hword]
  rcases hbody with ⟨rfl, rfl, rfl⟩ | ⟨rfl, rfl⟩ | rfl <;> rfl

/-- A request without a code that is known is refused as one of its port, source and id without arguments. -/
theorem badRequestCode_refused {r : Request} {body : List Byte} {code : Byte} {result : ResultCode}
    (hadmits : s.admits r.port) (hbody : badRequest body = some (r.id, code, result)) (hresult : result ≠ .done) :
    ∃ t, exec (.badRequestCode r.port r.src body) s = .next t ∧
      s.refusal t r { request := code, table := none, index := none, result } := by
  have hexec : exec (.badRequestCode r.port r.src body) s =
      performRequest s { r with args := [] } (asked code none) fun s => refuse s result := by
    show execBadRequestCode r.port r.src body s = _
    unfold execBadRequestCode
    rw [hbody]
  rw [hexec]
  exact performRequest_refused (r := { r with args := [] }) hadmits rfl hresult

theorem writeReadOnlyTable_refused {r : Request} {result : ResultCode} (hadmits : s.admits r.port)
    (hresult : readOnlyWrite r.args = some result) (hdone : result ≠ .done) :
    ∃ t, exec (.writeReadOnlyTable r) s = .next t ∧
      s.refusal t r { request := 3, table := readOnlyTableByte r.args, index := r.args[1]?, result } := by
  rw [writeReadOnlyTable_of hresult]
  exact performRequest_refused hadmits rfl hdone

/-- Settles O36. -/
theorem malformedRequestsRefused : Obligations.MalformedRequestsRefused := by
  unfold Obligations.MalformedRequestsRefused
  refine ⟨fun s r hadmits => ⟨fun i a hrow hlength => ?_, fun i x hrow hlength => ?_, read_badLength hadmits⟩,
    fun s r hadmits => ⟨fun code hcode => ?_, fun b1 b0 body hbody hid => ?_, fun table rest hargs htable hrest => ?_,
      fun hargs => ?_, fun table hargs htable => ?_⟩⟩
  · obtain ⟨judge, hrow⟩ := requestCommands_row hrow
    exact requestRow_refused hrow hadmits (hrow.length hlength _) (by decide)
  · obtain ⟨judge, hrow⟩ := writeCommands_row hrow
    exact writeRow_refused hrow hadmits (hrow.length hlength _) (by decide)
  · exact badRequestCode_refused hadmits (badRequest_of_code hcode) (by decide)
  · exact badRequestCode_refused hadmits (badRequest_of_short hbody hid) (by decide)
  · obtain ⟨second, others, rfl⟩ := List.exists_cons_of_ne_nil hrest
    have hrefused := writeReadOnlyTable_refused (result := .badTable) hadmits (by rw [hargs]; exact if_pos htable) (by decide)
    rw [hargs] at hrefused
    exact hrefused
  · have hrefused := writeReadOnlyTable_refused (result := .badLength) hadmits (by rw [hargs]; rfl) (by decide)
    rw [hargs] at hrefused
    exact hrefused
  · have hrefused := writeReadOnlyTable_refused (result := .badLength) hadmits (by rw [hargs]; exact if_pos htable) (by decide)
    rw [hargs] at hrefused
    exact hrefused

/-- Settles O37. -/
theorem busyAnswers : Obligations.BusyAnswers := by
  unfold Obligations.BusyAnswers
  refine fun s r hadmits => ⟨fun hflight => ⟨fun i x hrow hlength => ?_, fun i a hrow hcode hlength => ?_⟩,
    fun hpending i a hrow hcode hlength => ?_⟩
  · obtain ⟨judge, hrow⟩ := writeCommands_row hrow
    exact writeRow_refused hrow hadmits (hrow.busy hlength _ (by rwa [modPort_management])) (by decide)
  · obtain ⟨judge, hrow⟩ := requestCommands_row hrow
    exact requestRow_refused hrow hadmits (hrow.flight hcode hlength _ (by rwa [modPort_management])) (by decide)
  · obtain ⟨judge, hrow⟩ := requestCommands_row hrow
    exact requestRow_refused hrow hadmits (hrow.pending hcode hlength _ (by rwa [modPort_management])) (by decide)

end Sys2Proof.Machine
end

section
/-! Settles O40: a record that is read has its fields in range and is spelled by its bytes, so that a record that nothing in
range spells is refused (R164, R170, R191). -/

namespace Sys2Proof.Machine

variable {s t : State}

/-! ## Fields that are read -/

section Fields
variable {lo hi n m k : Nat} {b c : Byte}

theorem within_eq_some : within lo hi n = some m ↔ (lo ≤ n ∧ n ≤ hi) ∧ n = m := by
  simp [within]

theorem byteWithin_eq_some : byteWithin lo hi b = some c ↔ (lo ≤ b.toNat ∧ b.toNat ≤ hi) ∧ b = c := by
  simp [byteWithin]

theorem setField_toNat {v : BitVec k} (h : setField k n = some v) : v.toNat = n := by
  unfold setField at h
  split at h
  next hlt =>
    cases h
    exact Nat.mod_eq_of_lt hlt
  next => cases h

theorem byteOf_index {i : Fin k} (h : index? k b.toNat = some i) : byteOf i.val = b := by
  rw [index?_some h, byteOf_self]

theorem indexField_absentOr {x : Option (Fin k)} (h : absentOr k b = some x) : indexField (x.map (·.val)) = b := by
  unfold absentOr at h
  split at h
  next hb =>
    cases h
    exact hb.symm
  next =>
    obtain ⟨i, hi, rfl⟩ := Option.map_eq_some_iff.mp h
    exact byteOf_index hi

theorem twoValued_eq_some {α : Type} {zero one v : α} (h : twoValued b zero one = some v) :
    b = 0 ∧ v = zero ∨ b = 1 ∧ v = one := by
  unfold twoValued at h
  split at h
  next hb => exact .inl ⟨hb, (Option.some.inj h).symm⟩
  next =>
    split at h
    next hb => exact .inr ⟨hb, (Option.some.inj h).symm⟩
    next => cases h

theorem flagByte_twoValued {v : Bool} (h : twoValued b false true = some v) : flagByte v = b := by
  rcases twoValued_eq_some h with ⟨rfl, rfl⟩ | ⟨rfl, rfl⟩ <;> rfl

/-- A three-valued field. -/
theorem threeValued_eq_some {α : Type} {zero one two v : α} {a0 a1 a2 : Byte}
    (h : (if b = a0 then some zero else if b = a1 then some one else if b = a2 then some two else none) = some v) :
    b = a0 ∧ v = zero ∨ b = a1 ∧ v = one ∨ b = a2 ∧ v = two := by
  split at h
  next hb => exact .inl ⟨hb, (Option.some.inj h).symm⟩
  next =>
    split at h
    next hb => exact .inr (.inl ⟨hb, (Option.some.inj h).symm⟩)
    next =>
      split at h
      next hb => exact .inr (.inr ⟨hb, (Option.some.inj h).symm⟩)
      next => cases h

theorem MatchMode.code_ofCode {v : MatchMode} (h : MatchMode.ofCode b = some v) : v.code = b := by
  rcases threeValued_eq_some h with ⟨rfl, rfl⟩ | ⟨rfl, rfl⟩ | ⟨rfl, rfl⟩ <;> rfl

theorem StaleRule.code_ofCode {v : StaleRule} (h : StaleRule.ofCode b = some v) : v.code = b := by
  rcases threeValued_eq_some h with ⟨rfl, rfl⟩ | ⟨rfl, rfl⟩ | ⟨rfl, rfl⟩ <;> rfl

theorem ModeSource.code_twoValued {v : ModeSource} (h : twoValued b .snoop .set = some v) : v.code = b := by
  rcases twoValued_eq_some h with ⟨rfl, rfl⟩ | ⟨rfl, rfl⟩ <;> rfl

theorem Polarity.code_twoValued {v : Polarity} (h : twoValued b .alarmOnSet .alarmOnClear = some v) : v.code = b := by
  rcases twoValued_eq_some h with ⟨rfl, rfl⟩ | ⟨rfl, rfl⟩ <;> rfl

theorem SequenceType.code_twoValued {v : SequenceType} (h : twoValued b .auto .manual = some v) : v.code = b := by
  rcases twoValued_eq_some h with ⟨rfl, rfl⟩ | ⟨rfl, rfl⟩ <;> rfl

theorem bytes16_word16 : bytes16 (word16 b c) = [b, c] := by
  have hb : byteOf (word16 b c / 256) = b := by
    have hdiv : word16 b c / 256 = b.toNat := by
      unfold word16
      have := c.isLt
      omega
    rw [hdiv, byteOf_self]
  have hc : byteOf (word16 b c) = c := by
    apply BitVec.eq_of_toNat_eq
    rw [byteOf_toNat]
    unfold word16
    have := c.isLt
    omega
  rw [bytes16, hb, hc]

end Fields

/-! ## Records that are read -/

section Records
variable {rec : List Byte}

theorem parseWindow_eq_some {x : WindowRecord} (h : parseWindow rec = some (some x)) : rec = x.bytes := by
  unfold parseWindow at h
  split at h
  next st hn nc fc brightness =>
    simp only [Option.some.injEq, Option.bind_eq_bind, Option.bind_eq_some_iff] at h
    obtain ⟨sequence, hsequence, horn, hhorn, normal, hnormal, first, hfirst, rfl⟩ := h
    unfold WindowRecord.bytes
    dsimp only
    rw [SequenceType.code_twoValued hsequence, flagByte_twoValued hhorn, byteOf_index hnormal, byteOf_index hfirst]
  next => cases h

theorem parseGroup_eq_some {x : GroupRecord} (h : parseGroup rec = some (some x)) : x.inRange ∧ rec = x.bytes := by
  unfold parseGroup at h
  split at h
  next tb e =>
    simp only [Option.some.injEq, Option.bind_eq_bind, Option.bind_eq_some_iff, within_eq_some] at h
    obtain ⟨_, ⟨hrange, rfl⟩, enable, henable, rfl⟩ := h
    refine ⟨hrange, ?_⟩
    unfold GroupRecord.bytes
    rw [byteOf_self, flagByte_twoValued henable]
  next => cases h

theorem parseLampMask_eq_some {m : Bool} (h : parseLampMask rec = some (some m)) : rec = [flagByte m] := by
  unfold parseLampMask at h
  split at h
  next b => rw [flagByte_twoValued (Option.some.inj h)]
  next => cases h

theorem has_isolated_of_lt {v : ModeSet} (h : v.toNat < 2 ^ 6) : v.has .isolated = false :=
  Nat.testBit_lt_two_pow h

theorem parseTrip_eq_some {x : TripRecord} (h : parseTrip rec = some (some x)) : x.inRange ∧ rec = x.bytes := by
  unfold parseTrip at h
  split at h
  next k ps sr p1 p0 w e =>
    simp only [Option.some.injEq, Option.bind_eq_bind, Option.bind_eq_some_iff, within_eq_some] at h
    obtain ⟨_, ⟨hrequired, rfl⟩, h⟩ := h
    split at h
    case isFalse => cases h
    next hps =>
    simp only [Option.bind_eq_some_iff, Option.some.injEq, within_eq_some] at h
    obtain ⟨permits, hpermits, stale, hstale, _, ⟨hpulse, rfl⟩, _, ⟨htens, -⟩, window, hwindow, enable, henable, rfl⟩ := h
    have hset := setField_toNat hpermits
    refine ⟨⟨hrequired.1, hrequired.2, has_isolated_of_lt (by rw [hset]; exact hps), hpulse.1, hpulse.2, by dsimp only; omega⟩, ?_⟩
    unfold TripRecord.bytes
    dsimp only
    rw [byteOf_self, hset, byteOf_self, StaleRule.code_ofCode hstale, bytes16_word16, indexField_absentOr hwindow,
      flagByte_twoValued henable]
    rfl
  next => cases h

theorem parseSource_eq_some {e : Option SourceEntry} (h : parseSource rec = some (some e)) :
    (∀ x, e = some x → x.inRange) ∧ sourceSpelledBy e rec := by
  have hrange : ∀ x, e = some x → x.inRange := fun x hx => parseSource_inRange (hx ▸ h)
  refine ⟨hrange, ?_⟩
  unfold parseSource at h
  split at h
  next sc fc n fp p1 p0 mult =>
    rw [Option.some.injEq] at h
    split at h
    next hempty =>
      cases h
      exact ⟨rfl, fun _ => by rw [hempty]; rfl, fun hne => absurd rfl hne⟩
    next =>
      simp only [Option.bind_eq_bind, Option.bind_eq_some_iff, within_eq_some, Option.ite_none_right_eq_some,
        Option.some.injEq] at h
      obtain ⟨scanner, hscanner, _, ⟨-, rfl⟩, _, ⟨-, rfl⟩, _, ⟨-, rfl⟩, _, ⟨-, rfl⟩, -, rfl⟩ := h
      refine ⟨rfl, fun hnone => (by cases hnone), fun _ => ?_⟩
      unfold sourceBytes
      dsimp only
      rw [byteOf_index hscanner, byteOf_self, byteOf_self, byteOf_self, bytes16_word16, byteOf_self]
      rfl
  next => cases h

theorem parsePanel_eq_some {now p : Panel} (h : parsePanel now rec = some (some p)) : p.inRange ∧ p.spelledBy rec := by
  unfold parsePanel at h
  split at h
  next =>
    obtain ⟨_, hunit, h⟩ := Option.bind_eq_some_iff.mp (Option.some.inj h)
    obtain ⟨matchMode, hmode, h⟩ := Option.bind_eq_some_iff.mp h
    obtain ⟨_, hmask, h⟩ := Option.bind_eq_some_iff.mp h
    obtain ⟨_, halias, h⟩ := Option.bind_eq_some_iff.mp h
    obtain ⟨_, hlow, h⟩ := Option.bind_eq_some_iff.mp h
    obtain ⟨_, hhigh, h⟩ := Option.bind_eq_some_iff.mp h
    obtain ⟨healthWindow, hwindow, h⟩ := Option.bind_eq_some_iff.mp h
    obtain ⟨healthMasks, hmasks, h⟩ := Option.bind_eq_some_iff.mp h
    obtain ⟨testColour, hcolour, h⟩ := Option.bind_eq_some_iff.mp h
    obtain ⟨_, hhold, h⟩ := Option.bind_eq_some_iff.mp h
    obtain ⟨_, htimeout, h⟩ := Option.bind_eq_some_iff.mp h
    obtain ⟨modeSource, hsource, h⟩ := Option.bind_eq_some_iff.mp h
    obtain ⟨_, hage, h⟩ := Option.bind_eq_some_iff.mp h
    obtain ⟨unitIn, rfl⟩ := within_eq_some.mp hunit
    obtain ⟨maskIn, rfl⟩ := byteWithin_eq_some.mp hmask
    obtain ⟨aliasIn, rfl⟩ := byteWithin_eq_some.mp halias
    obtain ⟨-, rfl⟩ := byteWithin_eq_some.mp hlow
    obtain ⟨highIn, rfl⟩ := byteWithin_eq_some.mp hhigh
    obtain ⟨holdIn, rfl⟩ := within_eq_some.mp hhold
    obtain ⟨timeoutIn, rfl⟩ := within_eq_some.mp htimeout
    obtain ⟨ageIn, rfl⟩ := within_eq_some.mp hage
    obtain rfl := Option.some.inj h
    refine ⟨⟨unitIn.1, unitIn.2, maskIn.2, aliasIn.2, highIn.1, highIn.2, holdIn.2, timeoutIn.1, timeoutIn.2, ageIn.1, ageIn.2⟩,
      rfl, ?_⟩
    unfold Panel.bytes
    dsimp only
    rw [byteOf_self, MatchMode.code_ofCode hmode, byteOf_index hwindow, setField_toNat hmasks, bytes16_word16,
      byteOf_index hcolour, bytes16_word16, byteOf_self, ModeSource.code_twoValued hsource, byteOf_self]
    rfl
  next => cases h

theorem mapM_index {l : List Byte} {v : List (Fin 8)} (h : (l.mapM fun b => index? 8 b.toNat) = some v) :
    l = v.map fun c => byteOf c.val := by
  induction l generalizing v with
  | nil =>
    cases h
    rfl
  | cons b l ih =>
    simp only [List.mapM_cons, Option.bind_eq_bind, Option.bind_eq_some_iff, Option.pure_def, Option.some.injEq] at h
    obtain ⟨c, hc, v, hv, rfl⟩ := h
    rw [List.map_cons, byteOf_index hc, ← ih hv]

theorem parseVotes_eq_some {n : Nat} {slots : List Byte} {v : List (Fin 8)} (hslots : slots.length = 4)
    (h : parseVotes n slots = some v) :
    v.length = n ∧ n ≤ 4 ∧ v.Nodup ∧ slots.take n = v.map fun c => byteOf c.val := by
  unfold parseVotes at h
  simp only [Option.bind_eq_bind, Option.bind_eq_some_iff, within_eq_some, Option.ite_none_right_eq_some,
    Option.some.injEq] at h
  obtain ⟨_, ⟨⟨-, hfour⟩, rfl⟩, votes, hvotes, hnodup, rfl⟩ := h
  have htake := mapM_index hvotes
  refine ⟨?_, hfour, hnodup, htake⟩
  have hlength := congrArg List.length htake
  rw [List.length_take, List.length_map, hslots] at hlength
  omega

theorem parsePoint_eq_some {x : PointRecord} (h : parsePoint rec = some (some x)) : x.inRange ∧ x.spelledBy rec := by
  have hservice := parsePoint_service h
  unfold parsePoint at h
  split at h
  next sv pol on1 on0 off1 off0 w g inh n v0 v1 v2 v3 =>
    rw [Option.some.injEq] at h
    split at h
    case isFalse => cases h
    next hsv =>
    simp only [Option.bind_eq_bind, Option.bind_eq_some_iff, Option.some.injEq, within_eq_some] at h
    obtain ⟨service, rfl, polarity, hpolarity, _, ⟨hon, rfl⟩, _, ⟨hoff, rfl⟩, window, hwindow, group, hgroup, inhibit,
      hinhibit, votes, hvotes, rfl⟩ := h
    obtain ⟨hcount, hfour, hnodup, htake⟩ := parseVotes_eq_some rfl hvotes
    refine ⟨⟨hon.2, hoff.2, by dsimp only; omega, hnodup⟩, rfl, ?_⟩
    unfold PointRecord.bytes
    dsimp only
    rw [Polarity.code_twoValued hpolarity, bytes16_word16, bytes16_word16, indexField_absentOr hwindow,
      indexField_absentOr hgroup, setField_toNat hinhibit, byteOf_self, hcount, byteOf_self, hsv]
    have hten : 10 + n.toNat = n.toNat + 1 + 1 + 1 + 1 + 1 + 1 + 1 + 1 + 1 + 1 := by omega
    rw [hten]
    simp only [Service.code, List.cons_append, List.nil_append, List.take_succ_cons, htake]
    rw [List.take_left' (by rw [List.length_map, hcount])]
  next => cases h

end Records

/-! ## Writes that nothing in range spells (R164, R170) -/

/-- A record of the right length that nothing in range spells has a value out of range. -/
theorem parse_bad {α : Type} {v : Option (Option α)} (hsome : v.isSome = true) (hnever : ∀ x, v ≠ some (some x)) :
    v = some none := by
  obtain ⟨value, rfl⟩ := Option.isSome_iff_exists.mp hsome
  cases value with
  | none => rfl
  | some x => exact absurd rfl (hnever x)

theorem performWrite_bad {α : Type} {n : Nat} {r : Request} {x : TableId} {i : Byte} {rec : List Byte}
    {parse : State → List Byte → Option (Option α)} {own : State → Fin n → α → Judgement} (hadmits : s.admits r.port)
    (hargs : r.args = i :: rec) (hflight : s.management.flight = none) (hin : i.toNat < n)
    (hsome : (parse (s.asTaken r) rec).isSome = true) (hnever : ∀ v, parse (s.asTaken r) rec ≠ some (some v)) :
    ∃ t, performWrite s r x (fun s => s.judgeWrite n r.args (parse s) (own s)) = .next t ∧
      s.refusal t r (writeNote r x .badValue) := by
  refine performRequest_refused (a := { code := 3, table := some x.code, index := r.args.head? })
    (judge := fun s => s.judgeWrite n r.args (parse s) (own s)) hadmits ?_ (by decide)
  rw [hargs]
  exact judgeWrite_bad (parse_bad hsome hnever) (by rw [modPort_management, hflight]) hin

/-- Settles O40, by what each parser reads. -/
theorem writeIndexAndValuesRefused : Obligations.WriteIndexAndValuesRefused := by
  unfold Obligations.WriteIndexAndValuesRefused
  intro s r i rec hadmits hargs hflight
  refine ⟨fun c x hrow hlength hbeyond => ?index, fun hlength hi hnone => ?panel, fun hlength hi hnone => ?source,
    fun hlength hnone => ?point, fun hlength hi hnone => ?window, fun hlength hi hnone => ?group,
    fun hlength hi hnone => ?trip, fun hlength hi hnone => ?lampMask⟩
  case index =>
    obtain ⟨judge, hrow⟩ := writeCommands_row hrow
    exact writeRow_refused hrow hadmits (hrow.beyond i rec hargs hlength hbeyond _ (by rw [modPort_management, hflight]))
      (by decide)
  case panel =>
    refine performWrite_bad (parse := fun s => parsePanel s.tables.panel) hadmits hargs hflight (by rw [hi]; decide)
      ((parsePanel_isSome _).mpr hlength) fun p hp => ?_
    obtain ⟨hrange, hspelled⟩ := parsePanel_eq_some hp
    exact hnone p hrange hspelled
  case source =>
    refine performWrite_bad (parse := fun _ => parseSource) hadmits hargs hflight hi (parseSource_isSome.mpr hlength)
      fun e he => ?_
    obtain ⟨hrange, hspelled⟩ := parseSource_eq_some he
    exact hnone e hrange hspelled
  case point =>
    refine performWrite_bad (parse := fun _ => parsePoint) hadmits hargs hflight i.isLt (parsePoint_isSome.mpr hlength)
      fun x hx => ?_
    obtain ⟨hrange, hspelled⟩ := parsePoint_eq_some hx
    exact hnone x hrange (parsePoint_service hx) hspelled
  case window =>
    exact performWrite_bad (parse := fun _ => parseWindow) hadmits hargs hflight hi (parseWindow_isSome.mpr hlength)
      fun x hx => hnone x (parseWindow_eq_some hx)
  case group =>
    refine performWrite_bad (parse := fun _ => parseGroup) hadmits hargs hflight hi (parseGroup_isSome.mpr hlength)
      fun x hx => ?_
    obtain ⟨hrange, hspelled⟩ := parseGroup_eq_some hx
    exact hnone x hrange hspelled
  case trip =>
    refine performWrite_bad (parse := fun _ => parseTrip) hadmits hargs hflight hi (parseTrip_isSome.mpr hlength)
      fun x hx => ?_
    obtain ⟨hrange, hspelled⟩ := parseTrip_eq_some hx
    exact hnone x hrange hspelled
  case lampMask =>
    exact performWrite_bad (parse := fun _ => parseLampMask) hadmits hargs hflight hi (parseLampMask_isSome.mpr hlength)
      fun m hm => hnone m (parseLampMask_eq_some hm)

end Sys2Proof.Machine
end

section
/-! Settles O39, O48 and O49: READ-NEXT, STATUS and CLEAR-REFUSAL, the locks and PROTECT, and the reset keys (R166, R169,
R173, R174, R177 to R180). -/

namespace Sys2Proof.Machine

variable {s t : State}

/-! ## What an admitted request leaves -/

/-- An admitted request that leaves `u`, its slot behind the others of its port. -/
theorem performRequest_leaves {u : State} {r : Request} {a : Asked} {judge : State → Judgement} {slot : Slot}
    (hreceives : s.receives r.port = true) (htaken : s.takeRequest r.port r.id r.src a judge = u)
    (hown : u.port r.port = { s.port r.port with slots := (s.port r.port).slots ++ [slot] })
    (hother : u.port (otherPort r.port) = s.port (otherPort r.port)) :
    ∃ t, performRequest s r a judge = .next t ∧ t = { u with field := t.field, station := t.station } ∧
      Port.sameButArbiter { s.port r.port with slots := (s.port r.port).slots ++ [slot] } (t.port r.port) ∧
      (s.port (otherPort r.port)).sameButArbiter (t.port (otherPort r.port)) := by
  refine ⟨settle s u, by rw [performRequest_received hreceives, htaken], settle_eq s u, ?_, ?_⟩
  · have hport := settle_port s u r.port
    rw [hown] at hport
    exact hport
  · have hport := settle_port s u (otherPort r.port)
    rw [hother] at hport
    exact hport

/-- A request that moves nothing but management state, answered DONE (R163). -/
theorem performRequest_doneWith {r : Request} {a : Asked} {judge : State → Judgement} {m : Management} {data : List Byte}
    (hadmits : s.admits r.port) (hjudge : judge (s.asTaken r) = answer { s.asTaken r with management := m } data) :
    ∃ t, performRequest s r a judge = .next t ∧ s.doneWith t r m.done data := by
  obtain ⟨t, hnext, ht, hanswers⟩ := performRequest_done (a := a) (judge := judge) hadmits hjudge (fun q => by cases q <;> rfl)
    (modPort_straps _ _ _)
  refine ⟨t, hnext, ht.trans ?_, hanswers⟩
  rw [asTaken_view]

theorem noArgs_none {args : List Byte} {j : Judgement} (h : args = []) (s : State) : noArgs s args j = j := by
  rw [h]
  rfl

theorem asTaken_management (s : State) (r : Request) : (s.asTaken r).management = s.management := modPort_management _ _ _

theorem asTaken_mode (s : State) (r : Request) : (s.asTaken r).mode = s.mode := modPort_mode _ _ _

theorem asTaken_tables (s : State) (r : Request) : (s.asTaken r).tables = s.tables := modPort_tables _ _ _

/-! ## READ-NEXT, STATUS and CLEAR-REFUSAL (R166, R169, R179) -/

theorem recordBytes_bounds (x : TableId) : 1 ≤ x.recordBytes ∧ x.recordBytes ≤ 234 := by
  cases x <;> decide

/-- A READ-NEXT before the table's end gives as many records as are asked, remain and fit (R169). -/
theorem nextCount_spec (hok : s.managementOk) (hmore : s.management.readIndex < s.management.readTable.size) :
    let m := s.management
    1 ≤ s.nextCount ∧ s.nextCount ≤ m.readCount ∧ m.readIndex + s.nextCount ≤ m.readTable.size ∧
      s.nextCount * m.readTable.recordBytes ≤ 234 ∧
      (s.nextCount = m.readCount ∨ m.readIndex + s.nextCount = m.readTable.size ∨
        234 < (s.nextCount + 1) * m.readTable.recordBytes) := by
  obtain ⟨-, -, -, hcount, -⟩ := hok
  obtain ⟨hpositive, hshort⟩ := recordBytes_bounds s.management.readTable
  have hfits : ∀ n, n * s.management.readTable.recordBytes ≤ 234 ↔ n ≤ 234 / s.management.readTable.recordBytes := fun n =>
    (Nat.le_div_iff_mul_le hpositive).symm
  have hone : 1 ≤ 234 / s.management.readTable.recordBytes := (hfits 1).mp (by omega)
  dsimp only
  rw [hfits, ← Nat.not_le, hfits]
  have hnext : s.nextCount = min s.management.readCount (min (s.management.readTable.size - s.management.readIndex)
    (234 / s.management.readTable.recordBytes)) := rfl
  omega

theorem judgeReadNext_of_end (h : s.management.readIndex = s.management.readTable.size) :
    s.judgeReadNext = refuse s .badIndex := if_pos h.ge

theorem judgeReadNext_of_more (h : s.management.readIndex < s.management.readTable.size) :
    s.judgeReadNext =
      answer { s with management := { s.management with readIndex := s.management.readIndex + s.nextCount } }
        (s.readData s.management.readTable s.management.readIndex s.nextCount) := if_neg (Nat.not_le.mpr h)

theorem statusRecord_asTaken (s : State) (r : Request) : (s.asTaken r).statusRecord = s.statusRecord := by
  rw [asTaken_view]
  rfl

/-- Settles O39. -/
theorem readNextAndStatusAnswered : Obligations.ReadNextAndStatusAnswered := by
  unfold Obligations.ReadNextAndStatusAnswered
  refine ⟨fun s r hadmits hargs hok => ⟨fun hend => ?_, fun hmore => ?_⟩, fun s r hadmits hargs => ⟨?_, ?_⟩⟩
  · refine performRequest_refused (a := asked 2 none) (judge := fun s => noArgs s r.args s.judgeReadNext) hadmits ?_ (by decide)
    exact (noArgs_none hargs _).trans (judgeReadNext_of_end (by rw [asTaken_management, hend]))
  · obtain ⟨hone, hasked, hleft, hfits, hmost⟩ := nextCount_spec hok hmore
    have hcount : (s.asTaken r).nextCount = s.nextCount := by
      unfold State.nextCount
      rw [asTaken_management]
    have hjudge := (noArgs_none (j := (s.asTaken r).judgeReadNext) hargs (s.asTaken r)).trans
      (judgeReadNext_of_more (by rw [asTaken_management]; exact hmore))
    rw [hcount, asTaken_management] at hjudge
    obtain ⟨t, hnext, hdone⟩ := performRequest_doneWith (a := asked 2 none)
      (judge := fun s => noArgs s r.args s.judgeReadNext) hadmits hjudge
    exact ⟨t, s.nextCount, hnext, hone, hasked, hleft, hfits, hmost, hdone⟩
  · refine performRequest_doneWith (a := asked 15 none) (judge := fun s => noArgs s r.args (answer s s.statusRecord))
      (m := s.management) hadmits ?_
    rw [noArgs_none hargs, statusRecord_asTaken, asTaken_view]
  · refine performRequest_doneWith (a := asked 13 none) (judge := fun s => noArgs s r.args (done s.clearRefusal))
      (m := { s.management with lastRefusal := none }) hadmits ?_
    rw [noArgs_none hargs, State.clearRefusal, asTaken_management]
    rfl

/-! ## Locks (R173) -/

theorem judgeLock_beyond {l : Lock} {b : Byte} (h : 16 ≤ b.toNat) (s : State) : s.judgeLock l [b] = refuse s .badIndex := by
  unfold State.judgeLock
  dsimp only
  rw [index?_none.mpr h]

theorem judgeLock_of {l : Lock} {b : Byte} {k : Fin 16} (h : b.toNat = k.val) (s : State) :
    s.judgeLock l [b] =
      if l = .unlocked && !s.maintenance then refuse s .refusedMaintenance else done (s.setLock k l) := by
  unfold State.judgeLock
  dsimp only
  rw [h, index?_val]

theorem maintenance_asTaken (s : State) (r : Request) : (s.asTaken r).maintenance = s.maintenance := by
  unfold State.maintenance
  rw [asTaken_mode]

/-- A lock set, or an unlock under the maintenance condition. -/
theorem lock_done {l : Lock} {r : Request} {a : Asked} {b : Byte} {k : Fin 16} (hadmits : s.admits r.port)
    (hargs : r.args = [b]) (hk : b.toNat = k.val) (hallowed : l = .unlocked → s.maintenance = true) :
    ∃ t, performRequest s r a (fun s => s.judgeLock l r.args) = .next t ∧
      s.doneWith t r { s.management.done with locks := upd s.management.locks k fun _ => l } [] := by
  refine performRequest_doneWith (m := { s.management with locks := upd s.management.locks k fun _ => l }) hadmits ?_
  have hgoes : ¬(l = .unlocked && !(s.asTaken r).maintenance) = true := by
    rw [maintenance_asTaken]
    cases l with
    | locked => simp
    | unlocked => simp [hallowed rfl]
  rw [hargs, judgeLock_of hk, if_neg hgoes, State.setLock, asTaken_management]
  rfl

theorem lockAll_done {l : Lock} {r : Request} {a : Asked} (hadmits : s.admits r.port) (hargs : r.args = [])
    (hallowed : l = .unlocked → s.maintenance = true) :
    ∃ t, performRequest s r a (fun s => noArgs s r.args (s.judgeLockAll l)) = .next t ∧
      s.doneWith t r { s.management.done with locks := Vector.replicate 16 l } [] := by
  refine performRequest_doneWith (m := { s.management with locks := Vector.replicate 16 l }) hadmits ?_
  have hgoes : ¬(l = .unlocked && !(s.asTaken r).maintenance) = true := by
    rw [maintenance_asTaken]
    cases l with
    | locked => simp
    | unlocked => simp [hallowed rfl]
  rw [noArgs_none hargs, State.judgeLockAll, if_neg hgoes, State.setAllLocks, asTaken_management]
  rfl

theorem locksTaken {r : Request} (hadmits : s.admits r.port) :
    let maintained := s.mode.effective = some .isolated ∨ s.mode.effective = some .standstill
    let set (l : Vector Lock 16) : Management := { s.management.done with locks := l }
    (∀ b : Byte, r.args = [b] →
      let note (request : Byte) (result : ResultCode) : LastRefusal := { request, table := none, index := some b, result }
      (16 ≤ b.toNat →
        (∃ t, exec (.lockBlock r) s = .next t ∧ s.refusal t r (note 5 .badIndex)) ∧
        (∃ t, exec (.unlockBlock r) s = .next t ∧ s.refusal t r (note 6 .badIndex))) ∧
      ∀ k : Fin 16, b.toNat = k.val →
        (∃ t, exec (.lockBlock r) s = .next t ∧ s.doneWith t r (set (upd s.management.locks k fun _ => .locked)) []) ∧
        (maintained →
          ∃ t, exec (.unlockBlock r) s = .next t ∧ s.doneWith t r (set (upd s.management.locks k fun _ => .unlocked)) []) ∧
        (¬maintained → ∃ t, exec (.unlockBlock r) s = .next t ∧ s.refusal t r (note 6 .refusedMaintenance))) ∧
    (r.args = [] →
      (∃ t, exec (.lockAll r) s = .next t ∧ s.doneWith t r (set (Vector.replicate 16 .locked)) []) ∧
      (maintained → ∃ t, exec (.unlockAll r) s = .next t ∧ s.doneWith t r (set (Vector.replicate 16 .unlocked)) []) ∧
      (¬maintained → ∃ t, exec (.unlockAll r) s = .next t ∧
        s.refusal t r { request := 8, table := none, index := none, result := .refusedMaintenance })) := by
  dsimp only
  rw [← maintenance_iff]
  refine ⟨fun b hargs => ⟨fun hbeyond => ?_, fun k hk => ⟨?_, fun hmaintained => ?_, fun hnot => ?_⟩⟩,
    fun hargs => ⟨?_, fun hmaintained => ?_, fun hnot => ?_⟩⟩
  · have refused : ∀ (l : Lock) (code : Byte),
        ∃ t, performRequest s r (asked code r.args.head?) (fun s => s.judgeLock l r.args) = .next t ∧
          s.refusal t r { request := code, table := none, index := r.args.head?, result := .badIndex } := fun l code =>
      performRequest_refused (a := asked code r.args.head?) hadmits (by rw [hargs, judgeLock_beyond hbeyond]) (by decide)
    have hlock := refused .locked 5
    have hunlock := refused .unlocked 6
    rw [show r.args.head? = some b by rw [hargs]; rfl] at hlock hunlock
    refine ⟨?_, ?_⟩
    · show ∃ t, performRequest s r (asked 5 r.args.head?) _ = _ ∧ _
      rw [show r.args.head? = some b by rw [hargs]; rfl]
      exact hlock
    · show ∃ t, performRequest s r (asked 6 r.args.head?) _ = _ ∧ _
      rw [show r.args.head? = some b by rw [hargs]; rfl]
      exact hunlock
  · exact lock_done hadmits hargs hk fun h => by cases h
  · exact lock_done hadmits hargs hk fun _ => hmaintained
  · have hrefused := performRequest_refused (s := s) (r := r) (a := asked 6 r.args.head?)
      (judge := fun s => s.judgeLock .unlocked r.args) (result := .refusedMaintenance) hadmits
      (by rw [hargs, judgeLock_of hk, maintenance_asTaken]; simp [hnot]) (by decide)
    rw [show (asked 6 r.args.head?).index = some b by rw [hargs]; rfl] at hrefused
    exact hrefused
  · exact lockAll_done hadmits hargs fun h => by cases h
  · exact lockAll_done hadmits hargs fun _ => hmaintained
  · refine performRequest_refused (a := asked 8 none) (judge := fun s => noArgs s r.args (s.judgeLockAll .unlocked)) hadmits ?_
      (by decide)
    rw [noArgs_none hargs, State.judgeLockAll, maintenance_asTaken]
    simp [hnot]

/-! ## PROTECT (R174) -/

theorem Scheme.twoValued_code (sc : Scheme) : twoValued sc.code Scheme.range .block = some sc := by cases sc <;> rfl

theorem Direction.twoValued_code (d : Direction) : twoValued d.code Direction.top .bottom = some d := by cases d <;> rfl

theorem toNat_of_twoValued {α : Type} {b : Byte} {zero one v : α} (h : twoValued b zero one = some v) : b.toNat < 2 := by
  rcases twoValued_eq_some h with ⟨rfl, -⟩ | ⟨rfl, -⟩ <;> decide

theorem parseProtect_codes {b : Byte} (sc : Scheme) (d : Direction) (h : b.toNat ≤ 5) :
    parseProtect sc.code b d.code = some (sc, b.toNat, d) := by
  unfold parseProtect
  rw [Scheme.twoValued_code, Direction.twoValued_code, within_some (Nat.zero_le _) h]
  rfl

theorem parseProtect_none {a b c : Byte} (h : 2 ≤ a.toNat ∨ 6 ≤ b.toNat ∨ 2 ≤ c.toNat) : parseProtect a b c = none := by
  cases hparse : parseProtect a b c with
  | none => rfl
  | some v =>
    obtain ⟨sc, hscheme, hrest⟩ := Option.bind_eq_some_iff.mp hparse
    obtain ⟨lv, hlevel, hrest⟩ := Option.bind_eq_some_iff.mp hrest
    obtain ⟨d, hdirection, -⟩ := Option.bind_eq_some_iff.mp hrest
    have hlow := (within_eq_some.mp hlevel).1
    have hfirst := toNat_of_twoValued hscheme
    have hlast := toNat_of_twoValued hdirection
    omega

theorem judgeProtect_bad {a b c : Byte} (hflight : s.management.flight = none)
    (h : 2 ≤ a.toNat ∨ 6 ≤ b.toNat ∨ 2 ≤ c.toNat) : s.judgeProtect [a, b, c] = refuse s .badValue := by
  unfold State.judgeProtect
  dsimp only
  rw [unlessFlight_none hflight, parseProtect_none h]

theorem judgeProtect_codes {b : Byte} (sc : Scheme) (d : Direction) (hflight : s.management.flight = none)
    (h : b.toNat ≤ 5) :
    s.judgeProtect [sc.code, b, d.code] =
      if s.maintenance then done (s.setProtection sc b.toNat d) else refuse s .refusedMaintenance := by
  unfold State.judgeProtect
  dsimp only
  rw [unlessFlight_none hflight, parseProtect_codes sc d h]

/-- Settles O48. -/
theorem locksAndProtectTaken : Obligations.LocksAndProtectTaken := by
  unfold Obligations.LocksAndProtectTaken
  refine ⟨fun s r hadmits => locksTaken hadmits, fun s r a b c hadmits hflight hargs => ?_⟩
  dsimp only
  rw [← maintenance_iff]
  have hnone : (s.asTaken r).management.flight = none := by rw [asTaken_management, hflight]
  have refused : ∀ result : ResultCode, result ≠ .done →
      (s.asTaken r).judgeProtect [a, b, c] = refuse (s.asTaken r) result →
      ∃ t, exec (.protect r) s = .next t ∧ s.refusal t r { request := 9, table := none, index := none, result } :=
    fun result hresult hjudge => performRequest_refused (a := asked 9 none) (judge := fun s => s.judgeProtect r.args) hadmits
      (by rw [hargs, hjudge]) hresult
  refine ⟨fun hbad => refused .badValue (by decide) (judgeProtect_bad hnone hbad), fun sc d ha hb hc => ?_⟩
  subst ha hc
  have hjudge := judgeProtect_codes sc d hnone hb
  rw [maintenance_asTaken] at hjudge
  refine ⟨fun hnot => refused .refusedMaintenance (by decide) (hjudge.trans (if_neg hnot)), fun hmaintained => ?_⟩
  rw [if_pos hmaintained] at hjudge
  obtain ⟨t, hnext, ht, hanswers⟩ := performRequest_done (u := (s.asTaken r).setProtection sc b.toNat d) (data := [])
    (a := asked 9 none) (judge := fun s => s.judgeProtect r.args) hadmits (by rw [hargs]; exact hjudge) (fun q => by cases q <;> rfl) (modPort_straps _ _ _)
  refine ⟨t, hnext, hanswers, ht.trans ?_⟩
  rw [asTaken_view]
  rfl

/-! ## The reset keys (R177, R178, R180) -/

/-- An answer fills the slot that its request has reserved. -/
theorem fillNewest_port {u : State} {r : Request} {j : Judgement} {result : ResultCode}
    (hports : ∀ q, u.port q = (s.asTaken r).port q) (hstraps : u.straps = s.straps) (hresult : j.result = some result) :
    (u.fillNewest r.port r.id r.src j).port r.port =
        { s.port r.port with
          slots := (s.port r.port).slots ++
            [.filled (s.response r.id r.src result (if result = .done then j.data else [])) j.fourth] } ∧
      (u.fillNewest r.port r.id r.src j).port (otherPort r.port) = s.port (otherPort r.port) := by
  have hresponse : ∀ data, u.response r.id r.src result data = s.response r.id r.src result data := fun data => by
    unfold State.response State.panelAddress
    rw [hstraps]
  unfold State.fillNewest
  rw [hresult]
  dsimp only
  rw [modPort_port, modPort_other, hports, hports, asTaken_port, asTaken_port, if_pos rfl, if_neg (otherPort_ne r.port),
    hresponse]
  simp

/-- The key table of R177. -/
theorem keyStep_eq {progress : Nat} (key : Byte) (h : progress ≤ 3) :
    keyStep progress key =
      ((if key = 0 then [1, 1, 3, 1] else if key = 1 then [0, 2, 0, 0] else [0, 0, 0, 0]).getD progress 0,
        decide (progress = 3 ∧ key = 1)) := by
  unfold keyStep
  by_cases hzero : key = 0
  · subst hzero
    interval_cases progress <;> rfl
  · by_cases hone : key = 1
    · subst hone
      interval_cases progress <;> rfl
    · rw [if_neg hzero, if_neg hone, if_neg hzero, if_neg hone]
      interval_cases progress <;> simp
      exact hone

theorem judgeKey_of_idle {key : Byte} (h : s.management.pendingReset = none) :
    s.judgeKey [key] =
      { state := s, result := some .done, progress := (keyStep s.management.keyProgress key).1
        fourth := (keyStep s.management.keyProgress key).2 } := by
  unfold State.judgeKey
  dsimp only
  rw [h]
  rfl

/-- The state with a key taken, before its answer. -/
def State.keyed (s : State) (progress : Nat) (complete : Bool) : State :=
  { s with management := { s.management with
      keyProgress := progress
      keyTimer := if progress = 0 then .stopped else .running 1000
      pendingReset := if complete then some true else s.management.pendingReset } }

theorem keyed_eq (s : State) (progress : Nat) (complete : Bool) :
    (if complete then (s.setProgress progress).pendReset else s.setProgress progress) = s.keyed progress complete := by
  cases complete <;> rfl

theorem resetKey_taken {r : Request} {key : Byte} (hadmits : s.admits r.port) (hargs : r.args = [key])
    (hpending : s.management.pendingReset = none) {progress : Nat} {complete : Bool}
    (hstep : keyStep s.management.keyProgress key = (progress, complete)) :
    ∃ t, exec (.resetKey r) s = .next t ∧
      t = { s.keyed progress complete with field := t.field, station := t.station } ∧
      Port.sameButArbiter
        { s.port r.port with
          slots := (s.port r.port).slots ++ [.filled (s.response r.id r.src .done []) complete] } (t.port r.port) ∧
      (s.port (otherPort r.port)).sameButArbiter (t.port (otherPort r.port)) := by
  have hjudge : (s.asTaken r).judgeKey r.args =
      { state := s.asTaken r, result := some .done, progress, fourth := complete } := by
    rw [hargs, judgeKey_of_idle (by rw [asTaken_management, hpending]), asTaken_management, hstep]
  have htaken : s.takeRequest r.port r.id r.src (asked 16 none) (fun s => s.judgeKey r.args) =
      ((s.asTaken r).keyed progress complete).fillNewest r.port r.id r.src
        { state := s.asTaken r, result := some .done, progress, fourth := complete } := by
    rw [admit_open hadmits.2, hjudge, ← keyed_eq]
    rfl
  obtain ⟨hown, hother⟩ := fillNewest_port (s := s) (u := (s.asTaken r).keyed progress complete) (r := r)
    (j := { state := s.asTaken r, result := some .done, progress, fourth := complete }) (fun q => by cases q <;> rfl)
    (modPort_straps _ _ _) rfl
  obtain ⟨t, hnext, ht, hports⟩ := performRequest_leaves (a := asked 16 none) hadmits.1 htaken hown hother
  refine ⟨t, hnext, ht.trans ?_, hports⟩
  rw [fillNewest_view, State.keyed, asTaken_view]
  rfl

/-- Settles O49. -/
theorem resetKeysTaken : Obligations.ResetKeysTaken := by
  unfold Obligations.ResetKeysTaken
  refine fun s => ⟨fun r key hadmits hargs hpending hprogress => ?_, fun hrunning hnot => ?_, fun hrunning hdue => ?_⟩
  · obtain ⟨t, hnext, ht, hports⟩ := resetKey_taken hadmits hargs hpending (keyStep_eq key hprogress)
    refine ⟨t, hnext, ht.trans ?_, hports⟩
    rw [State.keyed, hpending]
  · exact perform_passed hrunning (if_neg ((Timer.isDue_iff _).not.mpr hnot))
  · exact perform_updates hrunning (if_pos ((Timer.isDue_iff _).mpr hdue)) fun _ => rfl

end Sys2Proof.Machine
end

section
/-! Settles O43: the POINT writes, with what the writes of the tables with checks of their own share (R171 to R173, R176). -/

namespace Sys2Proof.Machine

variable {s t : State}

/-! ## Writes with checks of their own -/

section Checked

variable {α : Type} {n : Nat} {r : Request} {i : Fin n} {x : α} {rec : List Byte} {table : TableId}
  {parse : State → List Byte → Option (Option α)} {own : State → Fin n → α → Judgement}

/-- A WRITE of a record in range comes to its table's own rule. -/
theorem judgeWrite_asTaken (hn : n ≤ 256) (hflight : s.management.flight = none) (hargs : r.args = byteOf i.val :: rec)
    (hparse : parse (s.asTaken r) rec = some (some x)) :
    (s.asTaken r).judgeWrite n r.args (parse (s.asTaken r)) (own (s.asTaken r)) = own (s.asTaken r) i x := by
  rw [hargs, judgeWrite_accepted _ hn (by rw [asTaken_management, hflight]) hparse]

theorem performWrite_refuses {result : ResultCode} (hn : n ≤ 256) (hadmits : s.admits r.port)
    (hflight : s.management.flight = none) (hargs : r.args = byteOf i.val :: rec)
    (hparse : parse (s.asTaken r) rec = some (some x)) (hown : own (s.asTaken r) i x = refuse (s.asTaken r) result)
    (hresult : result ≠ .done) :
    ∃ t, performWrite s r table (fun s => s.judgeWrite n r.args (parse s) (own s)) = .next t ∧
      s.refusal t r (writeNote r table result) :=
  performRequest_refused (a := { code := 3, table := some table.code, index := r.args.head? })
    (judge := fun s => s.judgeWrite n r.args (parse s) (own s)) hadmits
    ((judgeWrite_asTaken hn hflight hargs hparse).trans hown) hresult

theorem performWrite_writes {u : State} (hn : n ≤ 256) (hadmits : s.admits r.port)
    (hflight : s.management.flight = none) (hargs : r.args = byteOf i.val :: rec)
    (hparse : parse (s.asTaken r) rec = some (some x)) (hown : own (s.asTaken r) i x = written u table i.val)
    (hports : ∀ q, u.port q = (s.asTaken r).port q) (hstraps : u.straps = s.straps)
    (hmanagement : u.management = s.management) :
    ∃ t, performWrite s r table (fun s => s.judgeWrite n r.args (parse s) (own s)) = .next t ∧ s.answers t r .done [] ∧
      t = { u with management := s.management.pointed table i.val, field := t.field, station := t.station } := by
  obtain ⟨t, hnext, ht, hanswers⟩ := performRequest_done (u := u.setPointer table (i.val + 1)) (data := [])
    (a := { code := 3, table := some table.code, index := r.args.head? })
    (judge := fun s => s.judgeWrite n r.args (parse s) (own s)) hadmits
    ((judgeWrite_asTaken hn hflight hargs hparse).trans hown)
    (fun q => (by cases q <;> rfl : _ = u.port q).trans (hports q)) hstraps
  refine ⟨t, hnext, hanswers, ht.trans ?_⟩
  rw [State.setPointer, hmanagement]
  rfl

end Checked

/-! ## Protection (R172, R173) -/

theorem levelPoints_eq_some {level n : Nat} :
    [0, 16, 32, 64, 128, 256][level]? = some n ↔ level ≤ 5 ∧ n = if level = 0 then 0 else 8 * 2 ^ level := by
  rcases Nat.lt_or_ge 5 level with hbeyond | hwithin
  · rw [List.getElem?_eq_none (show 6 ≤ level from hbeyond)]
    simp only [reduceCtorEq, false_iff]
    omega
  · interval_cases level <;> simp [eq_comm]

theorem coveredByRange_iff {p : Fin 256} (hscheme : s.tables.panel.scheme = .range) (hlevel : s.tables.panel.level ≤ 5) :
    s.covered p = true ↔ s.protects p := by
  unfold State.covered State.protects
  simp only [hscheme, levelPoints_eq_some, hlevel, true_and, exists_eq_left]
  cases s.tables.panel.direction <;> simp only [decide_eq_true_eq]
  omega

theorem coveredByBlock_iff {p : Fin 256} (hscheme : s.tables.panel.scheme = .block) :
    s.covered p = true ↔ s.protects p := by
  have hblock : index? 16 (p.val / 16) = some ⟨p.val / 16, by omega⟩ := index?_val (k := 16) ⟨p.val / 16, by omega⟩
  unfold State.covered State.protects
  simp only [hscheme, hblock, decide_eq_true_eq]
  refine ⟨fun hlocked => ⟨_, rfl, hlocked⟩, fun ⟨b, hb, hlocked⟩ => ?_⟩
  rw [← show b = ⟨p.val / 16, by omega⟩ from Fin.ext hb]
  exact hlocked

theorem level_of_protects {p : Fin 256} (hscheme : s.tables.panel.scheme = .range) (h : s.protects p) :
    s.tables.panel.level ≤ 5 := by
  unfold State.protects at h
  simp only [hscheme] at h
  obtain ⟨n, hn, -⟩ := h
  exact (levelPoints_eq_some.mp hn).1

theorem covered_of_protects {p : Fin 256} (h : s.protects p) : s.covered p = true := by
  cases hscheme : s.tables.panel.scheme with
  | range => exact (coveredByRange_iff hscheme (level_of_protects hscheme h)).mpr h
  | block => exact (coveredByBlock_iff hscheme).mpr h

theorem covered_iff_protects {p : Fin 256} (hlevel : s.tables.panel.level ≤ 5) : s.covered p = true ↔ s.protects p := by
  cases hscheme : s.tables.panel.scheme with
  | range => exact coveredByRange_iff hscheme hlevel
  | block => exact coveredByBlock_iff hscheme

/-! ## POINT (R171) -/

section Point

variable {p : Fin 256} {x : PointRecord}

theorem judgePoint_of_covered (h : s.covered p = true) : s.judgePoint p x = refuse s .refusedProtected := if_pos h

theorem judgePoint_of_in (hfree : ¬s.covered p = true) (h : s.tables.point[p].service = .inn) :
    s.judgePoint p x = refuse s .refusedInService := (if_neg hfree).trans (if_pos h)

theorem judgePoint_of_out (hfree : ¬s.covered p = true) (h : s.tables.point[p].service = .out) :
    s.judgePoint p x =
      if s.nv.frozen = true ∧ s.tables.point[p].votes ≠ x.votes then refuse s .refusedFrozen
      else written (s.modTables fun t => { t with point := upd t.point p fun _ => x }) .point p.val := by
  unfold State.judgePoint
  rw [if_neg hfree, if_neg (by rw [h]; decide)]
  simp only [Bool.and_eq_true, decide_eq_true_eq]

end Point

theorem covered_asTaken (s : State) (r : Request) (p : Fin 256) : (s.asTaken r).covered p = s.covered p := by
  unfold State.covered
  rw [asTaken_tables, asTaken_management]

/-- Settles O43. -/
theorem writePointJudged : Obligations.WritePointJudged := by
  unfold Obligations.WritePointJudged
  intro s r p x rec hadmits hflight hrange hout hspelled hargs
  dsimp only
  have hparse : parsePoint rec = some (some x) := parsePoint_spelled hrange hout hspelled
  have refused : ∀ result : ResultCode, result ≠ .done → (s.asTaken r).judgePoint p x = refuse (s.asTaken r) result →
      ∃ t, exec (.writePoint r) s = .next t ∧ s.refusal t r (writeNote r .point result) := fun result hresult hjudge =>
    performWrite_refuses (parse := fun _ => parsePoint) (own := State.judgePoint) (by decide) hadmits hflight hargs hparse
      hjudge hresult
  refine ⟨fun hprotects => refused _ (by decide) (judgePoint_of_covered ?_), fun hlevel hfree => ?_⟩
  · rw [covered_asTaken]
    exact covered_of_protects hprotects
  have hopen : ¬(s.asTaken r).covered p = true := by
    rw [covered_asTaken, covered_iff_protects hlevel]
    exact hfree
  refine ⟨fun hin => refused _ (by decide) (judgePoint_of_in hopen (by rw [asTaken_tables]; exact hin)), fun hservice => ?_⟩
  have hjudge := judgePoint_of_out (x := x) hopen (by rw [asTaken_tables]; exact hservice)
  rw [asTaken_tables, modPort_nv] at hjudge
  refine ⟨fun hfrozen => refused _ (by decide) (hjudge.trans (if_pos hfrozen)), fun hthawed => ?_⟩
  obtain ⟨t, hnext, hanswers, ht⟩ := performWrite_writes (parse := fun _ => parsePoint) (own := State.judgePoint) (by decide)
    hadmits hflight hargs hparse (hjudge.trans (if_neg hthawed)) (fun q => by cases q <;> rfl) (modPort_straps _ _ _)
    (modPort_management _ _ _)
  refine ⟨t, hnext, hanswers, ht.trans ?_⟩
  rw [State.modTables, asTaken_view]

end Sys2Proof.Machine
end

section
/-! Settles O22, O23 and O24: UNIT-STATUS, SET-MODE and the mode timers (R26 to R31, R37), with what a step keeps outside the
part of the state that its block may reach. -/

namespace Sys2Proof.Machine

variable {s t u : State}

/-! ## From the state that an act leaves to the state after the step -/

theorem sameButPorts_of_eq (h : t = { u with field := t.field, station := t.station }) : u.sameButPorts t := by
  have hdraws : t.freeDraws = u.freeDraws := (congrArg State.freeDraws h :)
  rw [State.sameButPorts, hdraws]
  exact h

section Read

variable (h : u.sameButPorts t)
include h

theorem mode_of_ports : t.mode = u.mode := (congrArg State.mode h :)

theorem health_of_ports : t.health = u.health := (congrArg State.health h :)

theorem reports_of_ports : t.reports = u.reports := (congrArg State.reports h :)

end Read

section Outside

variable (h : t.offMode = s.offMode)
include h

theorem health_of_offMode : t.health = s.health := (congrArg State.health h :)

theorem management_of_offMode : t.management = s.management := (congrArg State.management h :)

theorem straps_of_offMode : t.straps = s.straps := (congrArg State.straps h :)

theorem port_of_offMode (q : PortId) : t.port q = s.port q := by
  cases q
  · exact (congrArg State.field h :)
  · exact (congrArg State.station h :)

end Outside

theorem mode_of_offHealth (h : t.offHealth = s.offHealth) : t.mode = s.mode := (congrArg State.mode h :)

theorem management_of_offHealth (h : t.offHealth = s.offHealth) : t.management = s.management :=
  (congrArg State.management h :)

theorem straps_of_offHealth (h : t.offHealth = s.offHealth) : t.straps = s.straps := (congrArg State.straps h :)

theorem port_of_offHealth (h : t.offHealth = s.offHealth) (q : PortId) : t.port q = s.port q := by
  cases q
  · exact (congrArg State.field h :)
  · exact (congrArg State.station h :)

theorem sameButHealth_of (hports : u.sameButPorts t) (hview : u.offHealth = s.offHealth) : s.sameButHealth t := by
  have hreach : t = { u.offHealth with
      health := t.health, windows := t.windows, horn := t.horn, reports := t.reports, lost := t.lost
      field := t.field, station := t.station, freeDraws := t.freeDraws } := by
    rw [hports]
    rfl
  rw [hview] at hreach
  exact hreach

theorem sameButMode_of (hports : u.sameButPorts t) (hview : u.offMode = s.offMode) : s.sameButMode t := by
  have hreach : t = { u.offMode with
      mode := t.mode, windows := t.windows, horn := t.horn, groups := t.groups, channels := t.channels, coils := t.coils
      nv := { u.offMode.nv with lockout := t.nv.lockout }, reports := t.reports, lost := t.lost
      field := t.field, station := t.station, freeDraws := t.freeDraws } := by
    rw [hports]
    rfl
  rw [hview] at hreach
  exact hreach

/-- Everything but the tracker, the Health Monitor and what they publish. -/
def State.offModeHealth (s : State) : State := { s.offMode with health := State.reset.health }

theorem offModeHealth_of_mode (h : t.offMode = s.offMode) : t.offModeHealth = s.offModeHealth :=
  congrArg (fun x : State => { x with health := State.reset.health }) h

theorem offModeHealth_of_health (h : t.offHealth = s.offHealth) : t.offModeHealth = s.offModeHealth := by
  show t.offHealth.offModeHealth = s.offHealth.offModeHealth
  rw [h]

theorem sameButModeAndHealth_of (hports : u.sameButPorts t) (hview : u.offModeHealth = s.offModeHealth) :
    s.sameButModeAndHealth t := by
  have hmode : u.offMode = ({ s with health := t.health } : State).offMode := by
    rw [health_of_ports hports]
    calc u.offMode = { u.offModeHealth with health := u.health } := rfl
      _ = { s.offModeHealth with health := u.health } := by rw [hview]
      _ = _ := rfl
  exact sameButMode_of hports hmode

/-! ## Records only join the queue -/

theorem Stroke.reports_grow (h : Stroke s t) : s.reports <+: t.reports := by
  rcases h.queue_eq with hsame | ⟨v, b, hbefore, hafter⟩
  · rw [show t.reports = s.reports from congrArg Prod.fst hsame]
  · rw [show t.reports = (v.emit b).reports from congrArg Prod.fst hafter,
      ← show v.reports = s.reports from congrArg Prod.fst hbefore]
    exact emit_prefix v b

theorem Strokes.reports_grow (h : Strokes s t) : s.reports <+: t.reports := by
  induction h with
  | refl => exact List.prefix_refl _
  | tail _ hstroke ih => exact ih.trans hstroke.reports_grow

/-! ## The tracker (R27, R29, R33, R34, R37) -/

theorem takeMode_offMode (s : State) (m : ModeTracker) : (s.takeMode m).offMode = s.offMode :=
  (offMode_of (takeMode_view s m)).trans rfl

theorem changeMode_offMode (s : State) (m : Option Mode) : (s.changeMode m).offMode = s.offMode := takeMode_offMode s _

theorem changeMode_health (s : State) (m : Option Mode) : (s.changeMode m).health = s.health :=
  health_of_offMode (changeMode_offMode s m)

theorem changeMode_management (s : State) (m : Option Mode) : (s.changeMode m).management = s.management :=
  management_of_offMode (changeMode_offMode s m)

theorem changeMode_straps (s : State) (m : Option Mode) : (s.changeMode m).straps = s.straps :=
  straps_of_offMode (changeMode_offMode s m)

theorem setFlag_mode (s : State) (n : Fin 11) : (s.setFlag n).mode = s.mode := mode_of_offHealth (setFlag_view s n)

/-- The MODE record comes before the change's other records. -/
theorem takeMode_reports {m : ModeTracker} (h : m.effective ≠ s.mode.effective) :
    (s.emit (.mode m.effective)).reports <+: (s.takeMode m).reports := by
  have hrest : Strokes (({ s with mode := m } : State).emit (.mode m.effective)) (s.takeMode m) := by
    unfold State.takeMode
    dsimp only
    rw [if_neg h]
    refine Relation.ReflTransGen.trans (b := if m.permitMode = s.mode.permitMode then ({ s with mode := m } : State).emit (.mode m.effective)
      else (({ s with mode := m } : State).emit (.mode m.effective)).publishPermits) ?_
      (forEach_strokes _ _ fun p _ s => publishInhibition_strokes s _ p)
    split
    · exact Relation.ReflTransGen.refl
    · exact publishPermits_strokes _
  rw [← emit_reports_congr (s := s) (u := { s with mode := m }) rfl rfl]
  exact hrest.reports_grow

/-- A tracker that does not move leaves the state as it is. -/
theorem takeMode_self (s : State) : s.takeMode s.mode = s := by
  unfold State.takeMode
  dsimp only
  rw [if_pos rfl, if_pos rfl]
  refine forEach_keeps (P := fun u => u = s) _ s (fun p _ u hu => ?_) rfl
  rw [hu]
  unfold State.publishInhibition
  simp

theorem changeTo_same {m : ModeTracker} {x : Option Mode} (holdMs : Nat) (h : m.effective = x) :
    m.changeTo x holdMs = m := by
  unfold ModeTracker.changeTo
  subst h
  cases heffective : m.effective <;> simp

theorem changeMode_same {x : Option Mode} (h : s.mode.effective = x) : s.changeMode x = s := by
  rw [State.changeMode, changeTo_same _ h, takeMode_self]

theorem changeTo_effective (m : ModeTracker) (x : Option Mode) (holdMs : Nat) : (m.changeTo x holdMs).effective = x := by
  unfold ModeTracker.changeTo
  cases heffective : m.effective with
  | none => cases x <;> simp [heffective]
  | some a =>
    cases x with
    | none => rfl
    | some b =>
      dsimp only
      split
      · next hsame => rw [heffective, hsame]
      · split <;> rfl

theorem changeTo_unitTimer (m : ModeTracker) (x : Option Mode) (holdMs : Nat) :
    (m.changeTo x holdMs).unitTimer = m.unitTimer := by
  unfold ModeTracker.changeTo
  split
  · split
    · rfl
    · split <;> rfl
  all_goals rfl

theorem changeMode_reports {x : Option Mode} (h : s.mode.effective ≠ x) :
    (s.emit (.mode x)).reports <+: (s.changeMode x).reports := by
  have hreports := takeMode_reports (s := s) (m := s.mode.changeTo x s.tables.panel.modeHoldMs)
    (by rw [changeTo_effective]; exact h.symm)
  rwa [changeTo_effective] at hreports

/-- A known mode taken (R27, R29, R34). -/
theorem changeTo_takes (m : ModeTracker) (new : Mode) (holdMs : Nat) : m.takes new holdMs (m.changeTo (some new) holdMs) := by
  refine ⟨changeTo_effective _ _ _, ?_⟩
  cases heffective : m.effective with
  | none =>
    have hchange : m.changeTo (some new) holdMs = { m with effective := some new, lastKnown := some new } := by
      unfold ModeTracker.changeTo
      rw [heffective]
    rw [hchange]
    exact ⟨fun _ => rfl, fun h => (by cases h), fun _ => ⟨rfl, rfl⟩, fun a h => (by cases h)⟩
  | some old =>
    by_cases hsame : old = new
    · subst hsame
      rw [changeTo_same _ heffective]
      exact ⟨fun h => absurd rfl h, fun _ => rfl, fun _ => ⟨rfl, rfl⟩, fun a h hne => absurd (Option.some.inj h).symm hne⟩
    · have hchange : m.changeTo (some new) holdMs =
          if holdMs = 0 then { m with effective := some new, lastKnown := some new, held := none, hold := .stopped }
          else { m with effective := some new, lastKnown := some new, held := some old, hold := .running holdMs } := by
        unfold ModeTracker.changeTo
        rw [heffective]
        exact if_neg hsame
      have hne : some old ≠ some new := fun h => hsame (Option.some.inj h)
      refine ⟨fun _ => ?_, fun h => absurd h hne, fun h => ?_, fun a ha _ => ?_⟩
      · rw [hchange]
        split <;> rfl
      · rcases h with h | h
        · cases h
        · exact absurd h hne
      · obtain rfl := Option.some.inj ha
        refine ⟨fun hholds => ?_, fun hnone => ?_⟩
        · rw [hchange, if_neg (Nat.ne_of_gt hholds)]
          exact ⟨rfl, rfl⟩
        · rw [hchange, if_pos hnone]
          exact ⟨rfl, rfl⟩

/-- The effective mode becomes UNKNOWN (R28, R29). -/
theorem changeTo_unknown {m : ModeTracker} (holdMs : Nat) (h : m.effective ≠ none) :
    m.changeTo none holdMs = { m with effective := none, held := none, hold := .stopped } := by
  obtain ⟨a, ha⟩ := Option.ne_none_iff_exists'.mp h
  unfold ModeTracker.changeTo
  rw [ha]

theorem Mode.eq_of_ofCode {b : Byte} {m : Mode} (h : Mode.ofCode b = some m) : b = byteOf m.code := by
  unfold Mode.ofCode at h
  split_ifs at h with h1 h2 h3 h4 h5 h6 h7 <;> cases h <;> assumption

/-! ## UNIT-STATUS (R26 to R30) -/

theorem takeUnitStatus_taken {unit : Byte} {m : Mode} (hsource : s.tables.panel.modeSource = .snoop)
    (hunit : unit.toNat = s.tables.panel.unitNumber) :
    s.takeUnitStatus [unit, byteOf m.code] = s.startUnitTimer.changeMode (some m) := by
  unfold State.takeUnitStatus
  dsimp only
  rw [if_pos ⟨hsource, hunit⟩, Mode.ofCode_code]

theorem takeUnitStatus_other {body : List Byte}
    (h : s.tables.panel.modeSource = .set ∨
      ∀ (u : Byte) (m : Mode), body = [u, byteOf m.code] → u.toNat ≠ s.tables.panel.unitNumber) :
    s.takeUnitStatus body = s := by
  unfold State.takeUnitStatus
  split
  · next unit code =>
    split
    · next htaken =>
      split
      · rfl
      · next m hm =>
        rcases h with hset | hother
        · rw [hset] at htaken
          cases htaken.1
        · exact absurd htaken.2 (hother unit m (by rw [Mode.eq_of_ofCode hm]))
    · rfl
  · rfl

theorem startUnitTimer_offMode (s : State) : s.startUnitTimer.offMode = s.offMode := rfl

/-- Settles O22. -/
theorem unitStatusTaken : Obligations.UnitStatusTaken := by
  unfold Obligations.UnitStatusTaken
  refine fun s f hreceives => ⟨fun m hsource hbody => ?_, fun hother => ?_⟩
  · obtain ⟨unit, hbody, hunit⟩ := hbody
    have hview := (changeMode_offMode s.startUnitTimer (some m)).trans (startUnitTimer_offMode s)
    have hact : s.takeUnitStatus f.body = s.startUnitTimer.changeMode (some m) := by
      rw [hbody, takeUnitStatus_taken hsource hunit]
    obtain ⟨t, hnext, hpasses, ht⟩ := performFrame_updates (f := ⟨3, f.dest, f.src, f.body⟩)
      (act := fun s => s.takeUnitStatus f.body) hreceives hact (port_of_offMode hview)
    have hmode : t.mode = s.startUnitTimer.mode.changeTo (some m) s.tables.panel.modeHoldMs :=
      (mode_of_ports ht).trans (changeMode_mode _ _)
    refine ⟨t, hnext, hpasses, sameButMode_of ht hview, ?_, ?_, fun hsame => ?_, fun hnew => ?_⟩
    · rw [hmode]
      exact changeTo_takes s.startUnitTimer.mode m _
    · rw [hmode, changeTo_unitTimer]
      rfl
    · rw [hmode, changeTo_same _ (show s.startUnitTimer.mode.effective = some m from hsame)]
      rw [changeMode_same (show s.startUnitTimer.mode.effective = some m from hsame)] at ht
      exact ht
    · rw [reports_of_ports ht]
      exact (emit_reports_congr (s := s) (u := s.startUnitTimer) rfl rfl) ▸
        changeMode_reports (s := s.startUnitTimer) (x := some m) hnew
  · exact performFrame_updates (f := ⟨3, f.dest, f.src, f.body⟩) (act := fun s => s.takeUnitStatus f.body) hreceives
      (takeUnitStatus_other hother) fun _ => rfl

/-! ## The mode timers (R28, R29) -/

theorem setFlag_offMode_health (s : State) (n : Fin 11) : (s.setFlag n).offModeHealth = s.offModeHealth :=
  offModeHealth_of_health (setFlag_view s n)

theorem holdTimerExpiry_ends (hrunning : s.phase = .running) (hdue : s.mode.hold = .running 0) :
    ∃ t, exec .holdTimerExpiry s = .next t ∧ s.portsIdle t ∧ s.sameButMode t ∧
      t.mode = { s.mode with held := none, hold := .stopped } := by
  have hview := takeMode_offMode s { s.mode with held := none, hold := .stopped }
  obtain ⟨t, hnext, hidle, ht⟩ := perform_updates
    (f := fun s => if s.mode.hold.isDue then s.holdExpires else s) hrunning (if_pos ((Timer.isDue_iff _).mpr hdue))
    (port_of_offMode hview)
  exact ⟨t, hnext, hidle, sameButMode_of ht hview, (mode_of_ports ht).trans (takeMode_mode _ _)⟩

/-- The part as the unit-status timer runs out. -/
def State.unitTimerGone (s : State) : State := { s with mode := { s.mode with unitTimer := .expired } }

theorem unitTimeout_offModeHealth (s : State) : s.unitTimeout.offModeHealth = s.offModeHealth :=
  (setFlag_offMode_health _ _).trans ((offModeHealth_of_mode (changeMode_offMode s.unitTimerGone none)).trans rfl)

theorem unitTimeout_mode (s : State) : s.unitTimeout.mode = s.unitTimerGone.mode.changeTo none s.tables.panel.modeHoldMs :=
  (setFlag_mode _ _).trans (changeMode_mode _ _)

theorem unitTimeout_flags (s : State) : s.unitTimeout.health.flags = s.health.flags ||| BitVec.twoPow 11 7 := by
  have hflags := setFlag_flags (s.unitTimerGone.changeMode none) flagModeUnknown
  rwa [changeMode_health] at hflags

theorem unitTimeout_reports (h : s.mode.effective ≠ none) : (s.emit (.mode none)).reports <+: s.unitTimeout.reports := by
  rw [← emit_reports_congr (s := s) (u := s.unitTimerGone) rfl rfl]
  exact (changeMode_reports (s := s.unitTimerGone) h).trans (setFlag_strokes _ _).reports_grow

theorem unitTimeout_port (s : State) (q : PortId) : s.unitTimeout.port q = s.port q := by
  calc s.unitTimeout.port q = (s.unitTimerGone.changeMode none).port q := port_of_offHealth (setFlag_view _ _) q
    _ = s.unitTimerGone.port q := port_of_offMode (changeMode_offMode _ _) q
    _ = s.port q := rfl

theorem unitStatusTimeout_ends (hrunning : s.phase = .running) (hdue : s.mode.unitTimer = .running 0) :
    ∃ t, exec .unitStatusTimeout s = .next t ∧ s.portsIdle t ∧ s.sameButModeAndHealth t ∧
      t.mode.effective = none ∧ t.mode.lastKnown = s.mode.lastKnown ∧ t.mode.unitTimer = .expired ∧
      (s.mode.effective ≠ none → t.mode.held = none ∧ t.mode.hold = .stopped ∧
        (s.emit (.mode none)).reports <+: t.reports) ∧
      (s.mode.effective = none → t.mode.held = s.mode.held ∧ t.mode.hold = s.mode.hold) ∧
      t.health.flags = s.health.flags ||| BitVec.twoPow 11 7 := by
  have hview := unitTimeout_offModeHealth s
  obtain ⟨t, hnext, hidle, ht⟩ := perform_updates
    (f := fun s => if s.mode.unitTimer.isDue then s.unitTimeout else s) hrunning (if_pos ((Timer.isDue_iff _).mpr hdue))
    (unitTimeout_port s)
  have hmode : t.mode = s.unitTimerGone.mode.changeTo none s.tables.panel.modeHoldMs :=
    (mode_of_ports ht).trans (unitTimeout_mode s)
  have hlast : (s.unitTimerGone.mode.changeTo none s.tables.panel.modeHoldMs).lastKnown = s.mode.lastKnown := by
    by_cases hknown : s.unitTimerGone.mode.effective = none
    · rw [changeTo_same _ hknown]
      rfl
    · rw [changeTo_unknown _ hknown]
      rfl
  refine ⟨t, hnext, hidle, sameButModeAndHealth_of ht hview, ?_, ?_, ?_, fun hknown => ?_, fun hunknown => ?_, ?_⟩
  · rw [hmode, changeTo_effective]
  · rw [hmode, hlast]
  · rw [hmode, changeTo_unitTimer]
    rfl
  · rw [hmode, changeTo_unknown _ (show s.unitTimerGone.mode.effective ≠ none from hknown)]
    refine ⟨rfl, rfl, ?_⟩
    rw [reports_of_ports ht]
    exact unitTimeout_reports hknown
  · rw [hmode, changeTo_same _ (show s.unitTimerGone.mode.effective = none from hunknown)]
    exact ⟨rfl, rfl⟩
  · rw [health_of_ports ht]
    exact unitTimeout_flags s

/-- Settles O24. -/
theorem modeTimersExpire : Obligations.ModeTimersExpire := by
  unfold Obligations.ModeTimersExpire
  refine fun s hrunning => ⟨fun hnot => ?_, fun hnot => ?_, holdTimerExpiry_ends hrunning, unitStatusTimeout_ends hrunning⟩
  · exact perform_passed hrunning (if_neg ((Timer.isDue_iff _).not.mpr hnot))
  · exact perform_passed hrunning (if_neg ((Timer.isDue_iff _).not.mpr hnot))

/-! ## SET-MODE (R31) -/

theorem judgeSetMode_bad {b : Byte} (h : ∀ m : Mode, b ≠ byteOf m.code) (s : State) :
    s.judgeSetMode [b] = refuse s .badValue := by
  unfold State.judgeSetMode
  dsimp only
  cases hm : Mode.ofCode b with
  | none => rfl
  | some m => exact absurd (Mode.eq_of_ofCode hm) (h m)

theorem judgeSetMode_snoop {m : Mode} (h : s.tables.panel.modeSource = .snoop) :
    s.judgeSetMode [byteOf m.code] = refuse s .refusedProtected := by
  unfold State.judgeSetMode
  simp only [Mode.ofCode_code, h]

theorem judgeSetMode_set {m : Mode} (h : s.tables.panel.modeSource = .set) :
    s.judgeSetMode [byteOf m.code] = done (s.changeMode (some m)) := by
  unfold State.judgeSetMode
  simp only [Mode.ofCode_code, h]

theorem setMode_taken {r : Request} {m : Mode} (hadmits : s.admits r.port) (hargs : r.args = [byteOf m.code])
    (hset : s.tables.panel.modeSource = .set) :
    ∃ t, exec (.setMode r) s = .next t ∧ s.answers t r .done [] ∧
      { s with management := s.management.done }.sameButMode t ∧
      s.mode.takes m s.tables.panel.modeHoldMs t.mode ∧ t.mode.unitTimer = s.mode.unitTimer ∧
      (s.mode.effective = some m →
        t = { s with mode := t.mode, management := s.management.done, field := t.field, station := t.station }) ∧
      (s.mode.effective ≠ some m → (s.emit (.mode (some m))).reports <+: t.reports) := by
  have hjudge : (s.asTaken r).judgeSetMode r.args = answer ((s.asTaken r).changeMode (some m)) [] := by
    rw [hargs, judgeSetMode_set (by rw [asTaken_tables, hset])]
    rfl
  have hview := changeMode_offMode (s.asTaken r) (some m)
  have hmanagement : ((s.asTaken r).changeMode (some m)).management = s.management :=
    (changeMode_management _ _).trans (asTaken_management s r)
  obtain ⟨t, hnext, ht, hanswers⟩ := performRequest_done (a := asked 14 none) (judge := fun s => s.judgeSetMode r.args)
    hadmits hjudge (port_of_offMode hview) ((changeMode_straps _ _).trans (modPort_straps _ _ _))
  rw [hmanagement] at ht
  have hports := sameButPorts_of_eq (u := { (s.asTaken r).changeMode (some m) with management := s.management.done }) ht
  have hmode : t.mode = s.mode.changeTo (some m) s.tables.panel.modeHoldMs :=
    (mode_of_ports hports).trans (by
      show ((s.asTaken r).changeMode (some m)).mode = _
      rw [changeMode_mode, asTaken_mode, asTaken_tables])
  have hreach : { s.asTaken r with management := s.management.done }.sameButMode t :=
    sameButMode_of hports (congrArg (fun x : State => { x with management := s.management.done }) hview)
  rw [asTaken_view] at hreach
  refine ⟨t, hnext, hanswers, hreach, ?_, ?_, fun hsame => ?_, fun hnew => ?_⟩
  · rw [hmode]
    exact changeTo_takes _ _ _
  · rw [hmode, changeTo_unitTimer]
  · rw [hmode, changeTo_same _ hsame]
    rw [changeMode_same (by rw [asTaken_mode, hsame]), asTaken_view] at ht
    exact ht
  · rw [reports_of_ports hports,
      ← emit_reports_congr (s := s) (u := s.asTaken r) (modPort_reports _ _ _) (modPort_clock _ _ _)]
    exact changeMode_reports (by rw [asTaken_mode]; exact hnew)

/-- Settles O23. -/
theorem setModeTaken : Obligations.SetModeTaken := by
  unfold Obligations.SetModeTaken
  refine fun s r b hadmits hargs => ⟨fun hbad => ?_, fun m hcode => ⟨fun hsnoop => ?_, fun hset => ?_⟩⟩
  · exact performRequest_refused (a := asked 14 none) (judge := fun s => s.judgeSetMode r.args) hadmits
      (by rw [hargs, judgeSetMode_bad hbad]) (by decide)
  · refine performRequest_refused (a := asked 14 none) (judge := fun s => s.judgeSetMode r.args) hadmits ?_ (by decide)
    rw [hargs, hcode, judgeSetMode_snoop (by rw [asTaken_tables, hsnoop])]
  · subst hcode
    exact setMode_taken hadmits hargs hset

end Sys2Proof.Machine
end

section
/-! Settles O41: an accepted PANEL write (R30, R42, R137, R170). -/

namespace Sys2Proof.Machine

variable {s t u : State} {before p : Panel}

/-! ## The tracker under new settings (R30) -/

/-- The unit-status timer as it starts under the settings in force. -/
abbrev Panel.freshUnitTimer (p : Panel) : Timer := .running (p.unitTimeoutS * 1000)

theorem sourceEffects_same (h : before.modeSource = s.tables.panel.modeSource) : s.sourceEffects before = s := by
  unfold State.sourceEffects
  rw [h]
  cases s.tables.panel.modeSource <;> rfl

theorem sourceEffects_to_snoop (hbefore : before.modeSource = .set) (hnow : s.tables.panel.modeSource = .snoop) :
    s.sourceEffects before = (s.changeMode none).startUnitTimer := by
  unfold State.sourceEffects
  rw [hbefore, hnow]
  rfl

theorem sourceEffects_to_set (hbefore : before.modeSource = .snoop) (hnow : s.tables.panel.modeSource = .set) :
    s.sourceEffects before = { s with mode := { s.mode with unitTimer := .stopped } } := by
  unfold State.sourceEffects
  rw [hbefore, hnow]
  rfl

theorem sourceEffects_panel (s : State) (before : Panel) : (s.sourceEffects before).tables.panel = s.tables.panel := by
  unfold State.sourceEffects
  split
  · exact (congrArg Tables.panel (startUnitTimer_tables _)).trans (changeMode_panel s none)
  · split <;> rfl

theorem sourceEffects_mode_of_set (hnow : s.tables.panel.modeSource = .set) :
    (s.sourceEffects before).mode =
      { s.mode with unitTimer := if before.modeSource = .snoop then .stopped else s.mode.unitTimer } := by
  cases hbefore : before.modeSource with
  | snoop => rw [sourceEffects_to_set hbefore hnow, if_pos rfl]
  | set => rw [sourceEffects_same (hbefore.trans hnow.symm), if_neg (by decide)]

theorem panelModeEffects_of_same_unit (h : before.unitNumber = s.tables.panel.unitNumber) :
    s.panelModeEffects before = s.sourceEffects before := (panelModeEffects_eq s before).trans (if_pos h)

/-- Another unit number under SNOOP: the mode is UNKNOWN, and no mode was ever known. -/
theorem panelModeEffects_mode_of_unit_snoop (h : before.unitNumber ≠ s.tables.panel.unitNumber)
    (hnow : s.tables.panel.modeSource = .snoop) :
    (s.panelModeEffects before).mode =
      { effective := none, lastKnown := none, held := none, hold := .stopped
        unitTimer := s.tables.panel.freshUnitTimer } := by
  rw [panelModeEffects_eq, if_neg h]
  simp only [hnow]
  rw [startUnitTimer_mode, takeMode_mode, takeMode_panel, sourceEffects_panel]

/-- Another unit number under SET: what is UNKNOWN was never known. -/
theorem panelModeEffects_mode_of_unit_set (h : before.unitNumber ≠ s.tables.panel.unitNumber)
    (hnow : s.tables.panel.modeSource = .set) :
    (s.panelModeEffects before).mode =
      { (s.sourceEffects before).mode with
        lastKnown := if (s.sourceEffects before).mode.effective = none then none
          else (s.sourceEffects before).mode.lastKnown } := by
  rw [panelModeEffects_eq, if_neg h]
  simp only [hnow]
  split
  · next m hknown => rw [if_neg (by rw [hknown]; exact Option.some_ne_none m)]
  · next hunknown => rw [takeMode_mode, if_pos hunknown]

theorem panelModeEffects_mode_of_set (hnow : s.tables.panel.modeSource = .set) :
    (s.panelModeEffects before).mode =
      { s.mode with
        lastKnown := if before.unitNumber ≠ s.tables.panel.unitNumber ∧ s.mode.effective = none then none
          else s.mode.lastKnown
        unitTimer := if before.modeSource = .snoop then .stopped else s.mode.unitTimer } := by
  by_cases hunit : before.unitNumber = s.tables.panel.unitNumber
  · rw [panelModeEffects_of_same_unit hunit, sourceEffects_mode_of_set hnow]
    simp [hunit]
  · rw [panelModeEffects_mode_of_unit_set hunit hnow, sourceEffects_mode_of_set hnow]
    simp [hunit]

/-- The source turns to SNOOP for the same unit: the mode is UNKNOWN, and the last known mode stays. -/
theorem panelModeEffects_mode_of_turn (hunit : before.unitNumber = s.tables.panel.unitNumber)
    (hbefore : before.modeSource = .set) (hnow : s.tables.panel.modeSource = .snoop) :
    (s.panelModeEffects before).mode =
      { s.mode.changeTo none s.tables.panel.modeHoldMs with unitTimer := s.tables.panel.freshUnitTimer } := by
  rw [panelModeEffects_of_same_unit hunit, sourceEffects_to_snoop hbefore hnow, startUnitTimer_mode, changeMode_mode,
    changeMode_panel]

theorem panelModeEffects_mode_of_snoop (hnow : s.tables.panel.modeSource = .snoop) :
    let m := (s.panelModeEffects before).mode
    let unit := before.unitNumber ≠ s.tables.panel.unitNumber
    (before.modeSource = .set ∨ unit → m.effective = none ∧ m.unitTimer = s.tables.panel.freshUnitTimer ∧
      (s.mode.effective ≠ none → m.held = none ∧ m.hold = .stopped)) ∧
    (unit → m.lastKnown = none) ∧ (¬unit → m.lastKnown = s.mode.lastKnown) ∧
    (before.modeSource = .snoop → ¬unit → m = s.mode) := by
  dsimp only
  by_cases hunit : before.unitNumber = s.tables.panel.unitNumber
  · cases hbefore : before.modeSource with
    | snoop =>
      rw [panelModeEffects_of_same_unit hunit, sourceEffects_same (hbefore.trans hnow.symm)]
      exact ⟨fun h => absurd hunit (h.resolve_left (by decide)), fun h => absurd hunit h, fun _ => rfl, fun _ _ => rfl⟩
    | set =>
      rw [panelModeEffects_mode_of_turn hunit hbefore hnow]
      refine ⟨fun _ => ⟨changeTo_effective _ _ _, rfl, fun hknown => ?_⟩, fun h => absurd hunit h, fun _ => ?_,
        fun h => (by cases h)⟩
      · rw [changeTo_unknown _ hknown]
        exact ⟨rfl, rfl⟩
      · by_cases hknown : s.mode.effective = none
        · rw [changeTo_same _ hknown]
        · rw [changeTo_unknown _ hknown]
  · rw [panelModeEffects_mode_of_unit_snoop hunit hnow]
    exact ⟨fun _ => ⟨rfl, rfl, fun _ => ⟨rfl, rfl⟩⟩, fun _ => rfl, fun h => absurd hunit h, fun _ h => absurd hunit h⟩

/-! ## The health feeder under new settings (R137) -/

theorem maskEffects_offHealth (s : State) (before : Panel) : (s.maskEffects before).offHealth = s.offHealth := by
  have hmasked : ∀ v : State, v.offHealth = (s.withHealthWindow before.healthWindow).offHealth →
      (v.withHealthWindow s.tables.panel.healthWindow).offHealth = s.offHealth := fun v hv => by
    calc (v.withHealthWindow s.tables.panel.healthWindow).offHealth =
        v.offHealth.withHealthWindow s.tables.panel.healthWindow := rfl
      _ = (s.withHealthWindow before.healthWindow).offHealth.withHealthWindow s.tables.panel.healthWindow := by rw [hv]
      _ = s.offHealth := rfl
  refine hmasked _ ?_
  split
  · rfl
  · exact evaluateFeeder_view _

theorem maskEffects_health (s : State) (before : Panel) :
    (s.maskEffects before).health = { s.health with
      feeder := if before.healthMasks = s.tables.panel.healthMasks then s.health.feeder
        else decide (s.health.flags &&& ~~~s.tables.panel.healthMasks ≠ 0) } := by
  have hread : ∀ (v : State) (w : Fin 96), (v.withHealthWindow w).health = v.health := fun _ _ => rfl
  unfold State.maskEffects
  rw [hread]
  by_cases hsame : before.healthMasks = s.tables.panel.healthMasks
  · rw [if_pos (show before.healthMasks = (s.withHealthWindow before.healthWindow).tables.panel.healthMasks from hsame),
      if_pos hsame, hread]
  · rw [if_neg (show before.healthMasks ≠ (s.withHealthWindow before.healthWindow).tables.panel.healthMasks from hsame),
      if_neg hsame, evaluateFeeder_health]
    rfl

theorem panelHealthEffects_offHealth (s : State) (before : Panel) : (s.panelHealthEffects before).offHealth = s.offHealth := by
  rw [panelHealthEffects_eq]
  split
  · exact maskEffects_offHealth s before
  · exact ((offHealth_of (activate_view _ _ _)).trans (offHealth_of (deactivate_view _ _ _))).trans
      (maskEffects_offHealth s before)

theorem panelHealthEffects_health (s : State) (before : Panel) :
    (s.panelHealthEffects before).health = (s.maskEffects before).health := by
  rw [panelHealthEffects_eq]
  split
  · rfl
  · rw [activate_health, deactivate_health]

/-! ## The whole write -/

/-- The part with new settings in force, before they act. -/
def State.withPanel (s : State) (p : Panel) : State := s.modTables fun t => { t with panel := p }

theorem writePanel_eq (s : State) (p : Panel) :
    s.writePanel p = ((s.withPanel p).panelModeEffects s.tables.panel).panelHealthEffects s.tables.panel := rfl

theorem panelModeEffects_offMode (s : State) (before : Panel) : (s.panelModeEffects before).offMode = s.offMode :=
  panelModeEffects_keeps (R := fun a b => b.offMode = a.offMode) (fun _ => rfl) (fun h h' => h'.trans h) takeMode_offMode
    (fun _ _ => rfl) s before

theorem tables_of_offMode (h : t.offMode = s.offMode) : t.tables = s.tables := (congrArg State.tables h :)

theorem writePanel_offModeHealth (s : State) (p : Panel) : (s.writePanel p).offModeHealth = (s.withPanel p).offModeHealth :=
  (offModeHealth_of_health (panelHealthEffects_offHealth _ _)).trans
    (offModeHealth_of_mode (panelModeEffects_offMode _ _))

theorem writePanel_mode (s : State) (p : Panel) :
    (s.writePanel p).mode = ((s.withPanel p).panelModeEffects s.tables.panel).mode :=
  mode_of_offHealth (panelHealthEffects_offHealth _ _)

theorem writePanel_health (s : State) (p : Panel) :
    (s.writePanel p).health = { s.health with
      feeder := if s.tables.panel.healthMasks = p.healthMasks then s.health.feeder
        else decide (s.health.flags &&& ~~~p.healthMasks ≠ 0) } := by
  have hview := panelModeEffects_offMode (s.withPanel p) s.tables.panel
  rw [writePanel_eq, panelHealthEffects_health, maskEffects_health, health_of_offMode hview, tables_of_offMode hview]
  rfl

theorem writePanel_port (s : State) (p : Panel) (q : PortId) : (s.writePanel p).port q = s.port q := by
  calc (s.writePanel p).port q = ((s.withPanel p).panelModeEffects s.tables.panel).port q :=
        port_of_offHealth (panelHealthEffects_offHealth _ _) q
    _ = (s.withPanel p).port q := port_of_offMode (panelModeEffects_offMode _ _) q
    _ = s.port q := rfl

theorem writePanel_management (s : State) (p : Panel) : (s.writePanel p).management = s.management := by
  calc (s.writePanel p).management = ((s.withPanel p).panelModeEffects s.tables.panel).management :=
        management_of_offHealth (panelHealthEffects_offHealth _ _)
    _ = (s.withPanel p).management := management_of_offMode (panelModeEffects_offMode _ _)
    _ = s.management := rfl

theorem writePanel_straps (s : State) (p : Panel) : (s.writePanel p).straps = s.straps := by
  calc (s.writePanel p).straps = ((s.withPanel p).panelModeEffects s.tables.panel).straps :=
        straps_of_offHealth (panelHealthEffects_offHealth _ _)
    _ = (s.withPanel p).straps := straps_of_offMode (panelModeEffects_offMode _ _)
    _ = s.straps := rfl

/-- Settles O41. -/
theorem writePanelAccepted : Obligations.WritePanelAccepted := by
  unfold Obligations.WritePanelAccepted
  intro s r p rec hadmits hflight hrange hspelled hargs
  obtain ⟨x, hx⟩ : ∃ x : Panel, x = { p with
      scheme := s.tables.panel.scheme, level := s.tables.panel.level, direction := s.tables.panel.direction } := ⟨_, rfl⟩
  have hparse : parsePanel (s.asTaken r).tables.panel rec = some (some x) := by
    rw [asTaken_tables, hx]
    exact parsePanel_spelled hrange hspelled
  obtain ⟨t, hnext, hanswers, ht⟩ := performWrite_writes (i := (0 : Fin 1)) (table := .panel)
    (parse := fun s => parsePanel s.tables.panel) (own := fun s i p => written (s.writePanel p) .panel i.val)
    (by decide) hadmits hflight hargs hparse rfl (writePanel_port _ x)
    ((writePanel_straps _ x).trans (modPort_straps _ _ _)) ((writePanel_management _ x).trans (asTaken_management s r))
  have hports := sameButPorts_of_eq
    (u := { (s.asTaken r).writePanel x with management := s.management.pointed .panel 0 }) ht
  have hmode : t.mode = (((s.asTaken r).withPanel x).panelModeEffects s.tables.panel).mode := by
    rw [mode_of_ports hports]
    show ((s.asTaken r).writePanel x).mode = _
    rw [writePanel_mode, asTaken_tables]
  have hwas : ((s.asTaken r).withPanel x).mode = s.mode := asTaken_mode s r
  have hsource : ((s.asTaken r).withPanel x).tables.panel.modeSource = p.modeSource := by rw [hx]; rfl
  have hunit : ((s.asTaken r).withPanel x).tables.panel.unitNumber = p.unitNumber := by rw [hx]; rfl
  have htimer : ((s.asTaken r).withPanel x).tables.panel.freshUnitTimer = .running (p.unitTimeoutS * 1000) := by rw [hx]; rfl
  refine ⟨t, hnext, hanswers, ?_, fun hsnoop => ?_, fun hset => ?_, ?_⟩
  · have hreach : { (s.asTaken r).withPanel x with management := s.management.pointed .panel 0 }.sameButModeAndHealth t :=
      sameButModeAndHealth_of hports
        (congrArg (fun v : State => { v with management := s.management.pointed .panel 0 }) (writePanel_offModeHealth _ x))
    rw [State.withPanel, State.modTables, asTaken_view, hx] at hreach
    exact hreach
  · have hfacts := panelModeEffects_mode_of_snoop (before := s.tables.panel) (hsource.trans hsnoop)
    rw [hwas, hunit, htimer] at hfacts
    rw [hmode]
    exact hfacts
  · rw [hmode, panelModeEffects_mode_of_set (hsource.trans hset), hwas, hunit]
  · rw [health_of_ports hports]
    show ((s.asTaken r).writePanel x).health = _
    rw [writePanel_health, asTaken_tables, modPort_health, hx]

end Sys2Proof.Machine
end

section
/-! Settles O50, O51, O52 and O53: CLEAR-HEALTH, the lamp and coil checks, and the measurements (R124 to R137). -/

namespace Sys2Proof.Machine

variable {s t u : State}

/-! ## Coil checks (R130 to R132) -/

section CoilRun

variable {v : Coil} {reading : CoilState} {n : Nat}

theorem Coil.take_of_other (h : ∀ n, v.run ≠ some (reading, n)) : v.take reading = { v with run := some (reading, 1) } := by
  unfold Coil.take
  split
  · next r n hrun => rw [if_neg fun (hsame : r = reading) => h n (by rw [hrun, hsame])]
  · rfl

theorem Coil.take_of_counting (h : v.run = some (reading, n)) (hn : n < 2) :
    v.take reading = { v with run := some (reading, n + 1) } := by
  unfold Coil.take
  rw [h]
  exact (if_pos rfl).trans (if_neg (Nat.not_le.mpr hn))

theorem Coil.take_of_third (h : v.run = some (reading, n)) (hn : 2 ≤ n) :
    v.take reading = { state := reading, run := none } := by
  unfold Coil.take
  rw [h]
  exact (if_pos rfl).trans (if_pos hn)

end CoilRun

/-- The part with a reading in a coil's run. -/
def State.coilRead (s : State) (c : Fin 8) (reading : CoilState) : State :=
  { s with coils := upd s.coils c fun v => v.take reading }

section CoilCheck

variable {c : Fin 8} {reading : CoilState}

theorem coilRead_self (s : State) (c : Fin 8) (reading : CoilState) :
    (s.coilRead c reading).coils[c] = s.coils[c].take reading := upd_self _ _ _

theorem checkCoil_of_same (h : (s.coils[c].take reading).state = s.coils[c].state) :
    s.checkCoil c reading = s.coilRead c reading := if_pos h

theorem checkCoil_of_moved (h : (s.coils[c].take reading).state ≠ s.coils[c].state) :
    s.checkCoil c reading =
      if (s.coils[c].take reading).state = .ok then
        (s.coilRead c reading).emit (.coil c (s.coils[c].take reading).state)
      else ((s.coilRead c reading).emit (.coil c (s.coils[c].take reading).state)).setFlag flagCoilFault := if_neg h

theorem checkCoil_offHealth (s : State) (c : Fin 8) (reading : CoilState) :
    (s.checkCoil c reading).offHealth = (s.coilRead c reading).offHealth := by
  have hemit := fun b => offHealth_of (emit_view (s.coilRead c reading) b)
  by_cases hsame : (s.coils[c].take reading).state = s.coils[c].state
  · rw [checkCoil_of_same hsame]
  · rw [checkCoil_of_moved hsame]
    split
    · exact hemit _
    · exact (setFlag_view _ _).trans (hemit _)

end CoilCheck

theorem coils_of_offHealth (h : t.offHealth = s.offHealth) : t.coils = s.coils := (congrArg State.coils h :)

theorem tables_of_offHealth (h : t.offHealth = s.offHealth) : t.tables = s.tables := (congrArg State.tables h :)

theorem lamps_of_offHealth (h : t.offHealth = s.offHealth) : t.lamps = s.lamps := (congrArg State.lamps h :)

theorem coils_of_ports (h : u.sameButPorts t) : t.coils = u.coils := (congrArg State.coils h :)

theorem lamps_of_ports (h : u.sameButPorts t) : t.lamps = u.lamps := (congrArg State.lamps h :)

theorem coilReading_eq (ohms : Nat) :
    coilReading ohms = if 10000000 < ohms then .opened else if ohms < 5000 then .short else .ok := rfl

theorem coilCheck_taken {c : Fin 8} {ohms : Nat} {reading : CoilState} (hreading : coilReading ohms = reading)
    (hrunning : s.phase = .running) (hoff : s.channels[c].state ≠ .firing) :
    ∃ t, exec (.coilCheck c ohms) s = .next t ∧ s.portsIdle t ∧ (s.checkCoil c reading).sameButPorts t := by
  refine perform_updates (f := fun s => if s.tripOutput c then s else s.checkCoil c (coilReading ohms)) hrunning ?_ fun q => ?_
  · show (if s.tripOutput c = true then s else s.checkCoil c (coilReading ohms)) = _
    rw [tripOutput_of_not_firing hoff, hreading]
    rfl
  · exact (port_of_offHealth (checkCoil_offHealth s c reading) q).trans (by cases q <;> rfl)

/-- Settles O52. -/
theorem coilCheckTaken : Obligations.CoilCheckTaken := by
  unfold Obligations.CoilCheckTaken
  intro s c ohms hrunning
  dsimp only
  rw [← coilReading_eq]
  generalize hreading : coilReading ohms = reading
  refine ⟨fun hfiring => ?_, fun hoff => ?_⟩
  · exact perform_passed (f := fun s => if s.tripOutput c then s else s.checkCoil c (coilReading ohms)) hrunning
      (if_pos ((tripOutput_iff s c).mpr ⟨hrunning, hfiring⟩))
  obtain ⟨t, hnext, hidle, ht⟩ := coilCheck_taken hreading hrunning hoff
  have hview := checkCoil_offHealth s c reading
  have hcoils : t.coils = (s.coilRead c reading).coils := (coils_of_ports ht).trans (coils_of_offHealth hview)
  have hcoil : t.coils[c] = s.coils[c].take reading := by rw [hcoils, coilRead_self]
  have hread : { s with coils := t.coils } = s.coilRead c reading := by
    rw [hcoils]
    rfl
  have hstill : (s.coils[c].take reading).state = s.coils[c].state → { s with coils := t.coils }.sameButPorts t :=
    fun hsame => by
      rw [hread, ← checkCoil_of_same hsame]
      exact ht
  refine ⟨t, hnext, hidle, ?_, fun d hd => ?_, fun hother => ?_, fun n hrun hn => ?_, fun n hrun hn => ?_⟩
  · rw [hread]
    exact sameButHealth_of ht hview
  · rw [hcoils]
    exact upd_ne _ _ hd.symm
  · have htake := Coil.take_of_other hother
    exact ⟨hcoil.trans htake, hstill (by rw [htake])⟩
  · have htake := Coil.take_of_counting hrun hn
    exact ⟨hcoil.trans htake, hstill (by rw [htake])⟩
  · have htake := Coil.take_of_third hrun hn
    refine ⟨hcoil.trans htake, fun hsame => hstill (by rw [htake, hsame]), fun hmoved => ?_⟩
    have hcheck := checkCoil_of_moved (s := s) (c := c) (reading := reading) (by rw [htake]; exact hmoved)
    rw [htake] at hcheck
    dsimp only at hcheck
    rw [hcheck] at ht
    refine ⟨?_, fun hok => ?_, fun hbad => ?_⟩
    · rw [reports_of_ports ht, ← emit_reports_congr (s := s) (u := s.coilRead c reading) rfl rfl]
      split
      · exact List.prefix_refl _
      · exact (setFlag_strokes _ _).reports_grow
    · rw [health_of_ports ht, if_pos hok, emit_health]
      rfl
    · rw [health_of_ports ht, if_neg hbad, setFlag_flags, emit_health]
      rfl

/-! ## Lamp checks (R125 to R129) -/

/-- Some driven element reads `k` (R125). -/
def someElementReads (levels : Nat × Nat × Nat) (red green blue k : ElementReading) : Prop :=
  0 < levels.1 ∧ red = k ∨ 0 < levels.2.1 ∧ green = k ∨ 0 < levels.2.2 ∧ blue = k

/-- The lamp reads `k`: a short goes before an open element (R125). -/
def lampReads (levels : Nat × Nat × Nat) (red green blue : ElementReading) : FaultKind → Prop
  | .short => someElementReads levels red green blue .short
  | .opened => ¬someElementReads levels red green blue .short ∧ someElementReads levels red green blue .opened

section LampReading

variable {levels : Nat × Nat × Nat} {red green blue : ElementReading}

theorem lampReading_of_reads {k : FaultKind} (h : lampReads levels red green blue k) :
    lampReading levels red green blue = some k := by
  unfold lampReading
  cases k with
  | short =>
    unfold lampReads someElementReads at h
    simp [or_assoc, h]
  | opened =>
    unfold lampReads someElementReads at h
    obtain ⟨hshort, hopened⟩ := h
    simp [or_assoc, hshort, hopened]

theorem lampReading_none (hshort : ¬someElementReads levels red green blue .short)
    (hopened : ¬someElementReads levels red green blue .opened) : lampReading levels red green blue = none := by
  unfold someElementReads at hshort hopened
  unfold lampReading
  simp [or_assoc, hshort, hopened]

end LampReading

section LampRun

variable {v : Lamp} {k : FaultKind} {n : Nat}

theorem Lamp.take_none (v : Lamp) : v.take none = ({ v with run := none }, false) := rfl

theorem Lamp.take_of_other (h : ∀ n, v.run ≠ some (k, n)) : v.take (some k) = ({ v with run := some (k, 1) }, false) := by
  unfold Lamp.take
  dsimp only
  split
  · next k' n hrun => rw [if_neg fun (hsame : k' = k) => h n (by rw [hrun, hsame])]
  · rfl

theorem Lamp.take_of_counting (h : v.run = some (k, n)) (hn : n < 2) :
    v.take (some k) = ({ v with run := some (k, n + 1) }, false) := by
  unfold Lamp.take
  dsimp only
  rw [h]
  exact (if_pos rfl).trans (if_neg (Nat.not_le.mpr hn))

theorem recordFault_eq (before : Option FaultKind) (k : FaultKind) :
    recordFault before k = if before = some .short then some .short else some k := by
  unfold recordFault
  split
  · rfl
  · next hnot => rw [if_neg hnot]

theorem Lamp.take_of_third (h : v.run = some (k, n)) (hn : 2 ≤ n) :
    v.take (some k) = ({ fault := if v.fault = some .short then some .short else some k, run := none }, true) := by
  rw [← recordFault_eq]
  unfold Lamp.take
  dsimp only
  rw [h]
  exact (if_pos rfl).trans (if_pos hn)

end LampRun

/-- The part with a reading in a lamp's run. -/
def State.lampRead (s : State) (w : Fin 96) (lamp : Lamp) : State := { s with lamps := upd s.lamps w fun _ => lamp }

theorem checkLamp_eq {w : Fin 96} {red green blue : ElementReading} {lamp : Lamp} {recorded : Bool}
    (h : s.lamps[w].take (lampReading (s.lampDrive w) red green blue) = (lamp, recorded)) :
    s.checkLamp w red green blue =
      if recorded then (s.lampRead w lamp).evaluateLampFault else s.lampRead w lamp := by
  unfold State.checkLamp
  dsimp only
  rw [h]
  rfl

/-- A check of a lit lamp moves its lamp, and the health side where its reading is recorded. -/
theorem lampCheck_taken {w : Fin 96} {red green blue : ElementReading} {lamp : Lamp} {recorded : Bool}
    (hrunning : s.phase = .running) (hlit : s.lampLit w = true)
    (h : s.lamps[w].take (lampReading (s.lampDrive w) red green blue) = (lamp, recorded)) :
    ∃ t, exec (.lampCheck w red green blue) s = .next t ∧ s.portsIdle t ∧
      { s with lamps := t.lamps }.sameButHealth t ∧ (∀ v, v ≠ w → t.lamps[v] = s.lamps[v]) ∧ t.lamps[w] = lamp ∧
      (recorded = false → t.health = s.health) ∧
      (recorded = true → (∃ v : Fin 96, s.tables.lampMask[v] = false ∧ t.lamps[v].fault ≠ none) →
        t.health.flags = s.health.flags ||| BitVec.twoPow 11 4) := by
  have hview : (s.checkLamp w red green blue).offHealth = (s.lampRead w lamp).offHealth := by
    rw [checkLamp_eq h]
    split
    · exact evaluateLampFault_view _
    · rfl
  obtain ⟨t, hnext, hidle, ht⟩ := perform_updates
    (f := fun s => if s.lampLit w then s.checkLamp w red green blue else s) hrunning (if_pos hlit) fun q =>
      (port_of_offHealth hview q).trans (by cases q <;> rfl)
  have hlamps : t.lamps = upd s.lamps w fun _ => lamp := (lamps_of_ports ht).trans (lamps_of_offHealth hview)
  refine ⟨t, hnext, hidle, ?_, fun v hv => ?_, ?_, fun hnot => ?_, fun hrecorded hfault => ?_⟩
  · rw [hlamps]
    exact sameButHealth_of ht hview
  · rw [hlamps]
    exact upd_ne _ _ hv.symm
  · rw [hlamps, upd_self]
  · rw [health_of_ports ht, checkLamp_eq h, hnot]
    rfl
  · rw [health_of_ports ht, checkLamp_eq h, hrecorded, if_pos rfl]
    refine evaluateLampFault_flags ((lampFaultPresent_iff _).mpr ?_)
    rw [hlamps] at hfault
    exact hfault

/-- Settles O51. -/
theorem lampCheckTaken : Obligations.LampCheckTaken := by
  unfold Obligations.LampCheckTaken
  refine fun s w red green blue hrunning => ⟨fun hdark => ?_, fun hlit => ?_⟩
  · exact perform_passed (f := fun s => if s.lampLit w then s.checkLamp w red green blue else s) hrunning
      (if_neg (by rw [hdark]; decide))
  obtain ⟨lamp, recorded, htake⟩ : ∃ lamp recorded,
      s.lamps[w].take (lampReading (s.lampDrive w) red green blue) = (lamp, recorded) := ⟨_, _, rfl⟩
  obtain ⟨t, hnext, hidle, hreach, hothers, hlamp, hsame, hfault⟩ := lampCheck_taken hrunning hlit htake
  refine ⟨t, hnext, hidle, hreach, hothers, fun hshort hopened => ?_, fun k hreads => ?_⟩
  · rw [lampReading_none hshort hopened, Lamp.take_none] at htake
    exact hlamp.trans (Prod.mk.inj htake).1.symm
  have hreading : lampReading (s.lampDrive w) red green blue = some k := by
    refine lampReading_of_reads ?_
    cases k <;> exact hreads
  rw [hreading] at htake
  refine ⟨fun hother => ?_, fun n hrun hn => ?_, fun n hrun hn => ?_⟩
  · rw [Lamp.take_of_other hother] at htake
    obtain ⟨rfl, rfl⟩ := Prod.mk.inj htake
    exact ⟨hlamp, hsame rfl⟩
  · rw [Lamp.take_of_counting hrun hn] at htake
    obtain ⟨rfl, rfl⟩ := Prod.mk.inj htake
    exact ⟨hlamp, hsame rfl⟩
  · rw [Lamp.take_of_third hrun hn] at htake
    obtain ⟨rfl, rfl⟩ := Prod.mk.inj htake
    exact ⟨hlamp, hfault rfl⟩

/-! ## Flags (R133, R135) -/

theorem inSet_add (x : BitVec 11) (n m : Fin 11) :
    inSet (x ||| BitVec.twoPow 11 n.val) m.val = (inSet x m.val || decide (n = m)) := by
  unfold inSet
  simp [Fin.ext_iff, eq_comm]

theorem inSet_drop (x : BitVec 11) (n m : Fin 11) :
    inSet (dropFromSet x n.val) m.val = (inSet x m.val && !decide (m = n)) := by
  unfold inSet dropFromSet
  simp [Fin.ext_iff, eq_comm]

/-- A flag's cause writes the flags and the feeder, and no measurement. -/
theorem setFlag_health (s : State) (n : Fin 11) :
    (s.setFlag n).health = { s.health with
      flags := s.health.flags ||| BitVec.twoPow 11 n.val, feeder := (s.setFlag n).health.feeder } := by
  rw [← setFlag_flags s n]
  unfold State.setFlag
  split
  · rfl
  · rw [evaluateFeeder_health, raiseFlag_health]

/-! ## The measurements (R124, R134) -/

/-- The part with a temperature reading, before its flag. -/
def State.measured (s : State) (celsius : Int) (hot : Bool) : State := { s with health := { s.health with celsius, hot } }

theorem takeTemperature_eq {x : Int} {hot : Bool} (h : hot = decide (85 < x ∨ s.health.hot = true ∧ 75 < x)) :
    s.takeTemperature x =
      if hot && !s.health.hot then (s.measured x hot).setFlag flagHot else s.measured x hot := by
  have hhysteresis : (if s.health.hot then decide (Config.hotEndsAt < x) else decide (Config.hotAbove < x)) = hot := by
    rw [h, Bool.eq_iff_iff, decide_eq_true_eq]
    by_cases hwas : s.health.hot = true
    · rw [if_pos hwas, decide_eq_true_eq]
      show 75 < x ↔ _
      simp only [hwas, true_and]
      omega
    · rw [if_neg hwas, decide_eq_true_eq]
      show 85 < x ↔ _
      tauto
  unfold State.takeTemperature
  dsimp only
  rw [hhysteresis]
  rfl

theorem temperatureMeasured {x : Int} {hot : Bool} (hrunning : s.phase = .running)
    (h : hot = decide (85 < x ∨ s.health.hot = true ∧ 75 < x)) {f : State → State} (hf : f s = s.takeTemperature x) :
    ∃ t, perform s f = .next t ∧ s.portsIdle t ∧ s.sameButHealth t ∧ t.health.celsius = x ∧ t.health.hot = hot ∧
      t.health.flags = (if hot && !s.health.hot then s.health.flags ||| BitVec.twoPow 11 3 else s.health.flags) := by
  have hview := takeTemperature_view s x
  obtain ⟨t, hnext, hidle, ht⟩ := perform_updates hrunning hf (port_of_offHealth hview)
  refine ⟨t, hnext, hidle, sameButHealth_of ht hview, ?_⟩
  rw [health_of_ports ht, takeTemperature_eq h]
  split
  · rw [setFlag_health]
    exact ⟨rfl, rfl, rfl⟩
  · exact ⟨rfl, rfl, rfl⟩

/-- The part with a supply reading, before its flag. -/
def State.supplied (s : State) (tenths : Nat) (supplyLow : Bool) : State :=
  { s with health := { s.health with tenths, supplyLow } }

theorem takeSupply_eq {x : Nat} {low : Bool} (hlasts : 160 ≤ x)
    (h : low = decide (x < 190 ∨ s.health.supplyLow = true ∧ x < 195)) :
    s.takeSupply x =
      if low && !s.health.supplyLow then ((s.supplied x low).setFlag flagSupplyLow).supplyLowMeetsFlight
      else s.supplied x low := by
  have hhysteresis :
      (if s.health.supplyLow then decide (x < Config.supplyLowEndsAt) else decide (x < Config.supplyLowBelow)) = low := by
    rw [h, Bool.eq_iff_iff, decide_eq_true_eq]
    by_cases hwas : s.health.supplyLow = true
    · rw [if_pos hwas, decide_eq_true_eq]
      show x < 195 ↔ _
      simp only [hwas, true_and]
      omega
    · rw [if_neg hwas, decide_eq_true_eq]
      show x < 190 ↔ _
      tauto
  unfold State.takeSupply
  rw [if_neg (show ¬x < Config.operationEndsBelow from Nat.not_lt.mpr hlasts)]
  dsimp only
  rw [hhysteresis]
  rfl

theorem supplyLowMeetsFlight_of_none (h : s.management.flight = none) : s.supplyLowMeetsFlight = s := by
  unfold State.supplyLowMeetsFlight
  rw [h]

/-- What SUPPLY-LOW does to an operation in flight leaves the measurements and the SUPPLY-LOW flag. -/
theorem supplyLowMeetsFlight_health (s : State) :
    s.supplyLowMeetsFlight.health.tenths = s.health.tenths ∧
      s.supplyLowMeetsFlight.health.supplyLow = s.health.supplyLow ∧
      inSet s.supplyLowMeetsFlight.health.flags 2 = inSet s.health.flags 2 := by
  unfold State.supplyLowMeetsFlight
  split
  · exact ⟨rfl, rfl, rfl⟩
  · dsimp only
    split
    · exact ⟨rfl, rfl, rfl⟩
    · next values stage _ _ =>
      have habandoned : ∀ v : State, v.health = s.health →
          ((((v.setFlight none).setFlag flagStoreFail).emit (.store .abandoned)).answerFlight .busy).health =
            { s.health with
              flags := s.health.flags ||| BitVec.twoPow 11 10
              feeder := ((v.setFlight none).setFlag flagStoreFail).health.feeder } := fun v hv => by
        show (((v.setFlight none).setFlag flagStoreFail).emit (.store .abandoned)).health = _
        rw [emit_health, setFlag_health, setFlight_health, hv]
        rfl
      rw [noteRefusal_health, habandoned { s with freeDraws := s.freeDraws + 1 } rfl]
      refine ⟨rfl, rfl, ?_⟩
      exact (inSet_add s.health.flags 10 2).trans (Bool.or_false _)
  · exact ⟨rfl, rfl, rfl⟩

theorem supplyMeasured {x : Nat} {low : Bool} (hrunning : s.phase = .running) (hlasts : 160 ≤ x)
    (h : low = decide (x < 190 ∨ s.health.supplyLow = true ∧ x < 195)) {f : State → State} (hf : f s = s.takeSupply x) :
    ∃ t, perform s f = .next t ∧ t.health.tenths = x ∧ t.health.supplyLow = low ∧
      inSet t.health.flags 2 = (inSet s.health.flags 2 || (low && !s.health.supplyLow)) ∧
      (s.management.flight = none → s.portsIdle t ∧ s.sameButHealth t) := by
  have hhealth : (s.takeSupply x).health.tenths = x ∧ (s.takeSupply x).health.supplyLow = low ∧
      inSet (s.takeSupply x).health.flags 2 = (inSet s.health.flags 2 || (low && !s.health.supplyLow)) := by
    rw [takeSupply_eq hlasts h]
    split
    · next hbegins =>
      obtain ⟨htenths, hlow, hflag⟩ := supplyLowMeetsFlight_health ((s.supplied x low).setFlag flagSupplyLow)
      rw [htenths, hlow, hflag, setFlag_health, hbegins]
      exact ⟨rfl, rfl, inSet_add s.health.flags 2 2⟩
    · next hnot =>
      rw [Bool.not_eq_true] at hnot
      rw [hnot, Bool.or_false]
      exact ⟨rfl, rfl, rfl⟩
  have hquiet : s.management.flight = none → (s.takeSupply x).offHealth = s.offHealth := fun hflight => by
    rw [takeSupply_eq hlasts h]
    split
    · have hview := setFlag_view (s.supplied x low) flagSupplyLow
      have hnone : ((s.supplied x low).setFlag flagSupplyLow).management.flight = none := by
        rw [management_of_offHealth hview]
        exact hflight
      rw [supplyLowMeetsFlight_of_none hnone]
      exact hview
    · rfl
  have hnext : perform s f = .next (settle s (s.takeSupply x)) := by rw [perform_running hrunning, hf]
  have hview := settle_eq s (s.takeSupply x)
  obtain ⟨htenths, hlow, hflag⟩ := hhealth
  refine ⟨_, hnext, htenths, hlow, hflag, fun hflight => ?_⟩
  obtain ⟨t, hnext', hidle, ht⟩ := perform_updates hrunning hf (port_of_offHealth (hquiet hflight))
  obtain rfl : settle s (s.takeSupply x) = t := eq_of_next (hnext.symm.trans hnext')
  exact ⟨hidle, sameButHealth_of ht (hquiet hflight)⟩

/-- Settles O53. -/
theorem measurementsTaken : Obligations.MeasurementsTaken := by
  unfold Obligations.MeasurementsTaken
  refine ⟨fun s x hrunning => ?_, fun s x hrunning hlasts => ?_⟩
  · dsimp only
    rintro i (rfl | ⟨rfl, hcold, hrises⟩ | ⟨rfl, hhot, hfalls⟩)
    · exact temperatureMeasured (f := fun s => s.takeTemperature x) hrunning rfl rfl
    · refine temperatureMeasured (f := fun s => if !s.health.hot && Config.hotAbove < x then s.takeTemperature x else s)
        hrunning rfl (if_pos ?_)
      simp [hcold, Config.hotAbove, hrises]
    · refine temperatureMeasured (f := fun s => if s.health.hot && x ≤ Config.hotEndsAt then s.takeTemperature x else s)
        hrunning rfl (if_pos ?_)
      simp [hhot, Config.hotEndsAt, hfalls]
  · dsimp only
    rintro i (rfl | ⟨rfl, hhigh, hfalls⟩ | ⟨rfl, hlow, hrises⟩)
    · exact supplyMeasured (f := fun s => s.takeSupply x) hrunning hlasts rfl rfl
    · refine supplyMeasured (f := fun s => if !s.health.supplyLow && x < Config.supplyLowBelow then s.takeSupply x else s)
        hrunning hlasts rfl (if_pos ?_)
      simp [hhigh, Config.supplyLowBelow, hfalls]
    · refine supplyMeasured (f := fun s => if s.health.supplyLow && Config.supplyLowEndsAt ≤ x then s.takeSupply x else s)
        hrunning hlasts rfl (if_pos ?_)
      simp [hlow, Config.supplyLowEndsAt, hrises]

/-! ## CLEAR-HEALTH (R136) -/

/-- CLEAR-HEALTH clears the flag: it is SET and its condition is absent. -/
def State.clears (s : State) (n : Fin 11) : Bool := s.flagSet n && !s.conditionPresent n

theorem clearFlag_of_clears {n : Fin 11} (h : s.clears n = true) :
    s.clearFlag n =
      ({ s with health := { s.health with flags := dropFromSet s.health.flags n.val } } : State).emit (.health n false) :=
  if_pos h

theorem clearFlag_of_not_clears {n : Fin 11} (h : s.clears n = false) : s.clearFlag n = s :=
  if_neg (Bool.not_eq_true _ ▸ h)

theorem conditionPresent_emit (s : State) (b : ReportBody) (n : Fin 11) :
    (s.emit b).conditionPresent n = s.conditionPresent n := by
  rw [eq_of_offWindows (emit_view s b)]
  rfl

theorem clearFlag_conditionPresent (s : State) (n m : Fin 11) :
    (s.clearFlag n).conditionPresent m = s.conditionPresent m := by
  cases h : s.clears n with
  | false => rw [clearFlag_of_not_clears h]
  | true =>
    rw [clearFlag_of_clears h, conditionPresent_emit]
    rfl

theorem clearFlag_health (s : State) (n : Fin 11) :
    (s.clearFlag n).health = { s.health with flags := (s.clearFlag n).health.flags } := by
  cases h : s.clears n with
  | false => rw [clearFlag_of_not_clears h]
  | true => rw [clearFlag_of_clears h, emit_health]

theorem clearFlag_flagSet (s : State) (n m : Fin 11) :
    (s.clearFlag n).flagSet m = (s.flagSet m && !(decide (m = n) && s.clears n)) := by
  cases h : s.clears n with
  | false => rw [clearFlag_of_not_clears h, Bool.and_false, Bool.not_false, Bool.and_true]
  | true =>
    rw [clearFlag_of_clears h, State.flagSet, emit_health, Bool.and_true]
    exact inSet_drop s.health.flags n m

theorem clearFlag_clears {n m : Fin 11} (h : m ≠ n) (s : State) : (s.clearFlag n).clears m = s.clears m := by
  unfold State.clears
  rw [clearFlag_flagSet, clearFlag_conditionPresent, decide_eq_false h, Bool.false_and, Bool.not_false, Bool.and_true]

theorem clearFlag_clock (s : State) (n : Fin 11) : (s.clearFlag n).clock = s.clock :=
  (congrArg State.clock (clearFlag_view s n) :)

theorem clearFlag_makes (s : State) (n : Fin 11) :
    s.makes (s.clearFlag n) (if s.clears n then [ReportBody.health n false] else []) := by
  cases h : s.clears n with
  | false =>
    rw [clearFlag_of_not_clears h]
    exact ⟨rfl, rfl⟩
  | true =>
    rw [clearFlag_of_clears h]
    exact emits_congr [ReportBody.health n false] rfl rfl rfl

/-- The flags of a list cleared, with the records in their order. -/
theorem clearFlags_spec : ∀ {l : List (Fin 11)}, l.Nodup → ∀ s : State,
    (∀ m, (forEach l (fun n s => s.clearFlag n) s).flagSet m = (s.flagSet m && !(decide (m ∈ l) && s.clears m))) ∧
      (forEach l (fun n s => s.clearFlag n) s).health =
        { s.health with flags := (forEach l (fun n s => s.clearFlag n) s).health.flags } ∧
      s.makes (forEach l (fun n s => s.clearFlag n) s) ((l.filter s.clears).map fun n => .health n false)
  | [], _, s => ⟨fun m => by simp, rfl, rfl, rfl⟩
  | n :: l, hnodup, s => by
    obtain ⟨hnot, hrest⟩ := List.nodup_cons.mp hnodup
    obtain ⟨hflags, hhealth, hmakes⟩ := clearFlags_spec hrest (s.clearFlag n)
    have hclears : ∀ m ∈ l, (s.clearFlag n).clears m = s.clears m := fun m hm => by
      have hne : m ≠ n := fun heq => hnot (heq ▸ hm)
      exact clearFlag_clears hne s
    refine ⟨fun m => ?_, ?_, ?_⟩
    · rw [forEach_cons, hflags, clearFlag_flagSet]
      by_cases hm : m ∈ l
      · have hne : m ≠ n := fun heq => hnot (heq ▸ hm)
        rw [hclears m hm]
        simp [hm, hne]
      · by_cases heq : m = n
        · subst heq
          simp [hm]
        · simp [hm, heq]
    · rw [forEach_cons, hhealth, clearFlag_health]
    · rw [forEach_cons, List.filter_cons, ← List.filter_congr hclears]
      have hmade := makes_append (clearFlag_clock s n) (clearFlag_makes s n) hmakes
      cases h : s.clears n with
      | false =>
        rw [h] at hmade
        exact hmade
      | true =>
        rw [h] at hmade
        exact hmade

/-- The part with its lamp fault list cleared. -/
def State.lampsCleared (s : State) : State := { s with lamps := Vector.replicate 96 { fault := none, run := none } }

theorem clearAllHealth_eq (s : State) :
    s.clearAllHealth = (forEach (ascending 11) (fun n s => s.clearFlag n) s.lampsCleared).evaluateFeeder := rfl

theorem lampsCleared_lampFaultPresent (s : State) : s.lampsCleared.lampFaultPresent = false := by
  rw [Bool.eq_false_iff, Ne, lampFaultPresent_iff]
  rintro ⟨v, -, hfault⟩
  refine hfault ?_
  show (Vector.replicate 96 ({ fault := none, run := none } : Lamp))[v].fault = none
  rw [Fin.getElem_fin, Vector.getElem_replicate]

theorem lampsCleared_clears (s : State) (n : Fin 11) :
    s.lampsCleared.clears n = (s.flagSet n && (n = flagLampFault || !s.conditionPresent n)) := by
  unfold State.clears
  show (s.flagSet n && !s.lampsCleared.conditionPresent n) = _
  by_cases hlamp : n = flagLampFault
  · subst hlamp
    have habsent : s.lampsCleared.conditionPresent flagLampFault = s.lampsCleared.lampFaultPresent := rfl
    rw [habsent, lampsCleared_lampFaultPresent]
    rfl
  · have hsame : s.lampsCleared.conditionPresent n = s.conditionPresent n := by
      unfold State.conditionPresent
      rw [if_neg hlamp, if_neg hlamp]
      rfl
    rw [hsame, decide_eq_false hlamp, Bool.false_or]

/-- What CLEAR-HEALTH leaves. -/
theorem clearAllHealth_spec (s : State) :
    let cleared (n : Fin 11) : Bool := s.flagSet n && (n = flagLampFault || !s.conditionPresent n)
    let u := s.clearAllHealth
    (∀ n : Fin 11, u.flagSet n = (s.flagSet n && !cleared n)) ∧
      u.health = { s.health with
        flags := u.health.flags, feeder := decide (u.health.flags &&& ~~~s.tables.panel.healthMasks ≠ 0) } ∧
      (((ascending 11).filter cleared).foldl (fun s n => s.emit (.health n false)) s).reports <+: u.reports := by
  dsimp only
  obtain ⟨hflags, hhealth, hreports, -⟩ := clearFlags_spec nodup_ascending s.lampsCleared
  have hview : (forEach (ascending 11) (fun n s => s.clearFlag n) s.lampsCleared).offHealth = s.lampsCleared.offHealth :=
    forEach_eq (m := State.offHealth) _ _ fun n _ s => clearFlag_view s n
  rw [clearAllHealth_eq]
  generalize forEach (ascending 11) (fun n s => s.clearFlag n) s.lampsCleared = v at hflags hhealth hreports hview
  have hfed := evaluateFeeder_health v
  refine ⟨fun n => ?_, ?_, ?_⟩
  · have hsame : v.evaluateFeeder.flagSet n = v.flagSet n := by
      unfold State.flagSet
      rw [hfed]
    rw [hsame, hflags, lampsCleared_clears, decide_eq_true (mem_ascending n), Bool.true_and]
    rfl
  · have htables : v.tables = s.lampsCleared.tables := tables_of_offHealth hview
    have hfeeder : v.unmaskedFlag = decide (v.health.flags &&& ~~~s.tables.panel.healthMasks ≠ 0) := by
      rw [State.unmaskedFlag, htables]
      rfl
    rw [hfed, hfeeder, hhealth]
    rfl
  · refine List.IsPrefix.trans ?_ (evaluateFeeder_strokes v).reports_grow
    rw [hreports, ← List.foldl_map (f := fun n => ReportBody.health n false) (g := State.emit),
      List.filter_congr fun n _ => lampsCleared_clears s n]
    rw [(emits_congr _ (s := s) (u := s.lampsCleared) rfl rfl rfl).1]

theorem clearAllHealth_offHealth (s : State) : s.clearAllHealth.offHealth = s.lampsCleared.offHealth :=
  (evaluateFeeder_view _).trans (forEach_eq (m := State.offHealth) _ _ fun n _ s => clearFlag_view s n)

theorem conditionPresent_asTaken (s : State) (r : Request) (n : Fin 11) :
    (s.asTaken r).conditionPresent n = s.conditionPresent n := by
  have hstatus : ∀ p, ((s.asTaken r).port p).status = (s.port p).status := fun p => by rw [asTaken_port]
  have hfield : (s.asTaken r).field.status = s.field.status := hstatus .field
  have hstation : (s.asTaken r).station.status = s.station.status := hstatus .station
  unfold State.conditionPresent
  rw [hfield, hstation, asTaken_view]
  rfl

theorem flagSet_asTaken (s : State) (r : Request) (n : Fin 11) : (s.asTaken r).flagSet n = s.flagSet n := by
  unfold State.flagSet
  rw [modPort_health]

/-- Settles O50. -/
theorem clearHealthTaken : Obligations.ClearHealthTaken := by
  unfold Obligations.ClearHealthTaken
  intro s r hadmits hargs
  obtain ⟨hflags, hhealth, hreports⟩ := clearAllHealth_spec (s.asTaken r)
  have hview := clearAllHealth_offHealth (s.asTaken r)
  obtain ⟨t, hnext, ht, hanswers⟩ := performRequest_done (u := (s.asTaken r).clearAllHealth) (data := [])
    (a := asked 12 none) (judge := fun s => noArgs s r.args (done s.clearAllHealth)) hadmits (noArgs_none hargs _)
    (fun q => (port_of_offHealth hview q).trans (by cases q <;> rfl))
    ((straps_of_offHealth hview).trans (modPort_straps _ _ _))
  rw [management_of_offHealth hview, show (s.asTaken r).lampsCleared.management = s.management from asTaken_management s r]
    at ht
  have hports := sameButPorts_of_eq (u := { (s.asTaken r).clearAllHealth with management := s.management.done }) ht
  have hsame : t.health = (s.asTaken r).clearAllHealth.health := (health_of_ports hports).trans rfl
  simp only [flagSet_asTaken, conditionPresent_asTaken] at hflags hreports
  rw [modPort_health, asTaken_tables] at hhealth
  refine ⟨t, hnext, hanswers, ?_, fun n => ?_, ?_, ?_⟩
  · have hreach : { (s.asTaken r).lampsCleared with management := s.management.done }.sameButHealth t :=
      sameButHealth_of hports (congrArg (fun x : State => { x with management := s.management.done }) hview)
    rw [State.lampsCleared, asTaken_view] at hreach
    exact hreach
  · rw [State.flagSet, hsame]
    exact hflags n
  · rw [hsame]
    exact hhealth
  · rw [reports_of_ports hports]
    rw [← List.foldl_map (f := fun n => ReportBody.health n false) (g := State.emit)] at hreports ⊢
    rwa [(emits_congr _ (modPort_reports s _ _) (modPort_lost _ _ _) (modPort_clock _ _ _)).1] at hreports

end Sys2Proof.Machine
end

section
/-! Settles O54: how FREEZE-TRIP and STORE are judged (R176, R184). -/

namespace Sys2Proof.Machine

variable {s t u : State}

/-! ## A request whose answer waits, and a refusal that leaves more than its record -/

/-- A request that is accepted and answered later leaves its slot RESERVED (R155, R163). -/
theorem performRequest_inFlight {r : Request} {a : Asked} {judge : State → Judgement} (hadmits : s.admits r.port)
    (hjudge : judge (s.asTaken r) = inFlight u) (hports : ∀ q, u.port q = (s.asTaken r).port q) :
    ∃ t, performRequest s r a judge = .next t ∧
      t = { u with management := u.management.done, field := t.field, station := t.station } ∧
      Port.sameButArbiter
        { s.port r.port with slots := (s.port r.port).slots ++ [.reserved r.id r.src] } (t.port r.port) ∧
      (s.port (otherPort r.port)).sameButArbiter (t.port (otherPort r.port)) := by
  have htaken : s.takeRequest r.port r.id r.src a judge = u.setProgress 0 := by
    rw [admit_open hadmits.2, hjudge]
    rfl
  have hport : ∀ q, (u.setProgress 0).port q = (s.asTaken r).port q := fun q => by
    rw [← hports]
    cases q <;> rfl
  obtain ⟨t, hnext, ht, hslots⟩ := performRequest_leaves (slot := .reserved r.id r.src) hadmits.1 htaken
    (by rw [hport, asTaken_port, if_pos rfl])
    (by rw [hport, asTaken_port, if_neg (otherPort_ne r.port), List.append_nil])
  exact ⟨t, hnext, ht, hslots⟩

/-- A refused request whose judgement leaves `u`. -/
theorem performRequest_refusedWith {r : Request} {a : Asked} {judge : State → Judgement} {result : ResultCode}
    (hadmits : s.admits r.port) (hjudge : judge (s.asTaken r) = refuse u result) (hresult : result ≠ .done)
    (hports : ∀ q, u.port q = (s.asTaken r).port q) (hstraps : u.straps = s.straps) :
    ∃ t, performRequest s r a judge = .next t ∧
      t = { u with
        management := u.management.refused { request := a.code, table := a.table, index := a.index, result }
        field := t.field, station := t.station } ∧
      s.answers t r result [] := by
  have hnoted : (u.setProgress 0).noteResult a (some result) =
      (u.setProgress 0).noteRefusal { request := a.code, table := a.table, index := a.index, result } := by
    cases result with
    | done => exact absurd rfl hresult
    | _ => rfl
  have htaken : s.takeRequest r.port r.id r.src a judge =
      ((u.setProgress 0).noteRefusal { request := a.code, table := a.table, index := a.index, result }).fillNewest
        r.port r.id r.src (refuse u result) := by
    rw [admit_open hadmits.2, hjudge, ← hnoted]
    rfl
  refine ⟨_, performRequest_received hadmits.1, ?_⟩
  rw [htaken]
  refine ⟨?_, settle_answers _ (fillNewest_answers (j := refuse u result) (u := (u.setProgress 0).noteRefusal
    { request := a.code, table := a.table, index := a.index, result }) (fun q => ?_) hstraps rfl (by rw [if_neg hresult])
    rfl)⟩
  · rw [settle_eq, fillNewest_view]
    rfl
  · rw [← hports]
    cases q <;> rfl

theorem unlessHeldBack_none {j : Judgement} (hflight : s.management.flight = none)
    (hpending : s.management.pendingReset = none) : unlessHeldBack s j = j :=
  if_neg (by rw [hflight, hpending]; decide)

/-! ## FREEZE-TRIP (R176) -/

theorem anyTripped_iff (s : State) :
    s.anyTripped = true ↔ ∃ c : Fin 8, s.channels[c].state = .firing ∨ s.channels[c].state = .lockout := by
  unfold State.anyTripped
  simp [ascending]

theorem judgeFreeze_of_idle (hflight : s.management.flight = none) (hpending : s.management.pendingReset = none) :
    s.judgeFreeze =
      if s.nv.frozen then refuse s .refusedFrozen
      else if !s.maintenance then refuse s .refusedMaintenance
      else if s.anyTripped then refuse s .refusedActive
      else if s.health.supplyLow then refuse s .busy
      else inFlight (s.setFlight (some (.freeze s.tables.tripArea))) := unlessHeldBack_none hflight hpending

theorem freezeTripJudged {r : Request} (hadmits : s.admits r.port) (hargs : r.args = [])
    (hflight : s.management.flight = none) (hpending : s.management.pendingReset = none) :
    let maintained := s.mode.effective = some .isolated ∨ s.mode.effective = some .standstill
    let tripped := ∃ c : Fin 8, s.channels[c].state = .firing ∨ s.channels[c].state = .lockout
    let refused (result : ResultCode) : Prop :=
      ∃ t, exec (.freezeTrip r) s = .next t ∧ s.refusal t r { request := 10, table := none, index := none, result }
    (s.nv.frozen = true → refused .refusedFrozen) ∧
    (s.nv.frozen = false →
      (¬maintained → refused .refusedMaintenance) ∧
      (maintained →
        (tripped → refused .refusedActive) ∧
        (¬tripped →
          (s.health.supplyLow = true → refused .busy) ∧
          (s.health.supplyLow = false → ∃ t, exec (.freezeTrip r) s = .next t ∧
            t = { s with
              management := { s.management.done with
                flight := some (.freeze { trip := s.tables.trip, votes := s.tables.point.map fun x => x.votes }) }
              field := t.field, station := t.station } ∧
            Port.sameButArbiter
              { s.port r.port with slots := (s.port r.port).slots ++ [.reserved r.id r.src] } (t.port r.port) ∧
            (s.port (otherPort r.port)).sameButArbiter (t.port (otherPort r.port)))))) := by
  dsimp only
  have hjudge := judgeFreeze_of_idle (s := s.asTaken r) (by rw [asTaken_management, hflight])
    (by rw [asTaken_management, hpending])
  have htripped : (s.asTaken r).anyTripped = s.anyTripped := by
    unfold State.anyTripped
    rw [modPort_channels]
  rw [modPort_nv, maintenance_asTaken, htripped, modPort_health] at hjudge
  have refused : ∀ result : ResultCode, result ≠ .done → (s.asTaken r).judgeFreeze = refuse (s.asTaken r) result →
      ∃ t, exec (.freezeTrip r) s = .next t ∧ s.refusal t r { request := 10, table := none, index := none, result } :=
    fun result hresult h => performRequest_refused (a := asked 10 none)
      (judge := fun s => noArgs s r.args s.judgeFreeze) hadmits ((noArgs_none hargs _).trans h) hresult
  rw [← maintenance_iff, ← anyTripped_iff]
  refine ⟨fun hfrozen => ?_, fun hthawed => ⟨fun hnot => ?_, fun hmaintained => ⟨fun hactive => ?_, fun hidle =>
    ⟨fun hlow => ?_, fun hsupplied => ?_⟩⟩⟩⟩
  · exact refused _ (by decide) (hjudge.trans (if_pos hfrozen))
  · rw [hthawed, Bool.eq_false_of_not_eq_true hnot] at hjudge
    exact refused _ (by decide) hjudge
  · rw [hthawed, hmaintained, hactive] at hjudge
    exact refused _ (by decide) hjudge
  · rw [hthawed, hmaintained, Bool.eq_false_of_not_eq_true hidle, hlow] at hjudge
    exact refused _ (by decide) hjudge
  · rw [hthawed, hmaintained, Bool.eq_false_of_not_eq_true hidle, hsupplied] at hjudge
    obtain ⟨t, hnext, ht, hslots⟩ := performRequest_inFlight
      (u := (s.asTaken r).setFlight (some (.freeze (s.asTaken r).tables.tripArea))) (a := asked 10 none)
      (judge := fun s => noArgs s r.args s.judgeFreeze) hadmits ((noArgs_none hargs _).trans hjudge)
      fun q => by cases q <;> rfl
    refine ⟨t, hnext, ht.trans ?_, hslots⟩
    rw [State.setFlight, asTaken_view]
    rfl

/-! ## STORE (R184) -/

theorem judgeStore_of_idle (hflight : s.management.flight = none) (hpending : s.management.pendingReset = none) :
    s.judgeStore =
      if s.health.supplyLow then refuse (s.setFlag flagStoreFail) .busy else inFlight s.beginStore :=
  unlessHeldBack_none hflight hpending

theorem storeRefused {r : Request} (hadmits : s.admits r.port) (hargs : r.args = [])
    (hflight : s.management.flight = none) (hpending : s.management.pendingReset = none)
    (hlow : s.health.supplyLow = true) :
    ∃ t, exec (.store r) s = .next t ∧ s.answers t r .busy [] ∧
      { s with
        management := s.management.refused { request := 11, table := none, index := none, result := .busy }
        }.sameButHealth t ∧
      t.health.flags = s.health.flags ||| BitVec.twoPow 11 10 := by
  have hjudge := judgeStore_of_idle (s := s.asTaken r) (by rw [asTaken_management, hflight])
    (by rw [asTaken_management, hpending])
  rw [modPort_health, hlow] at hjudge
  have hview := setFlag_view (s.asTaken r) flagStoreFail
  obtain ⟨t, hnext, ht, hanswers⟩ := performRequest_refusedWith (u := (s.asTaken r).setFlag flagStoreFail)
    (a := asked 11 none) (judge := fun s => noArgs s r.args s.judgeStore) hadmits ((noArgs_none hargs _).trans hjudge)
    (by decide) (port_of_offHealth hview) ((straps_of_offHealth hview).trans (modPort_straps _ _ _))
  rw [management_of_offHealth hview, asTaken_management] at ht
  have hports := sameButPorts_of_eq (u := { (s.asTaken r).setFlag flagStoreFail with
    management := s.management.refused { request := 11, table := none, index := none, result := .busy } }) ht
  have hreach : { s.asTaken r with
      management := s.management.refused { request := 11, table := none, index := none, result := .busy }
      }.sameButHealth t := sameButHealth_of hports (congrArg (fun x : State => { x with
    management := s.management.refused { request := 11, table := none, index := none, result := .busy } }) hview)
  rw [asTaken_view] at hreach
  refine ⟨t, hnext, hanswers, hreach, ?_⟩
  rw [health_of_ports hports]
  show ((s.asTaken r).setFlag flagStoreFail).health.flags = _
  rw [setFlag_flags, modPort_health]
  rfl

theorem storeAccepted {r : Request} (hadmits : s.admits r.port) (hargs : r.args = [])
    (hflight : s.management.flight = none) (hpending : s.management.pendingReset = none)
    (hsupplied : s.health.supplyLow = false) :
    ∃ t, exec (.store r) s = .next t ∧
      t = { s with
        nv := { s.nv with markValid := false }
        management := { s.management.done with flight := some (.store s.tables .accepted) }
        field := t.field, station := t.station } ∧
      Port.sameButArbiter
        { s.port r.port with slots := (s.port r.port).slots ++ [.reserved r.id r.src] } (t.port r.port) ∧
      (s.port (otherPort r.port)).sameButArbiter (t.port (otherPort r.port)) := by
  have hjudge := judgeStore_of_idle (s := s.asTaken r) (by rw [asTaken_management, hflight])
    (by rw [asTaken_management, hpending])
  rw [modPort_health, hsupplied] at hjudge
  obtain ⟨t, hnext, ht, hslots⟩ := performRequest_inFlight (u := (s.asTaken r).beginStore) (a := asked 11 none)
    (judge := fun s => noArgs s r.args s.judgeStore) hadmits ((noArgs_none hargs _).trans hjudge)
    fun q => by cases q <;> rfl
  refine ⟨t, hnext, ht.trans ?_, hslots⟩
  rw [State.beginStore, State.setFlight, asTaken_view]
  rfl

/-- Settles O54. -/
theorem freezeTripAndStoreJudged : Obligations.FreezeTripAndStoreJudged := by
  unfold Obligations.FreezeTripAndStoreJudged
  exact ⟨fun s r hadmits hargs hflight hpending => freezeTripJudged hadmits hargs hflight hpending,
    fun s r hadmits hargs hflight hpending =>
      ⟨storeRefused hadmits hargs hflight hpending, storeAccepted hadmits hargs hflight hpending⟩⟩

end Sys2Proof.Machine
end

section
/-! Settles O57 and O58: the ends of transmissions and the arbiter's choices (R143, R150 to R161). -/

namespace Sys2Proof.Machine

variable {s t u : State}

/-! ## The arbiters at the end of a step (R151, R152) -/

/-- What the arbiter of a port makes of its transmitter and its forwarded count at the end of a step. -/
def State.arbitrated (before after : State) (p : PortId) : Transmitter × Nat :=
  let q := after.port p
  chooseNext (q.status = .up) (after.ownFrame p) q.fifo.length
    (beginWait (before.ownFrame p).isSome (after.ownFrame p).isSome (q.tx, q.forwarded))

theorem settle_port_eq (before after : State) (p : PortId) :
    (settle before after).port p = (after.port p).withArbiter (before.arbitrated after p) := by
  cases p <;> rfl

theorem settlePort_eq (before after : State) (p : PortId) :
    settlePort before p after = after.modPort p fun q => q.withArbiter (before.arbitrated after p) := rfl

theorem Port.withArbiter_self (q : Port) : q.withArbiter (q.tx, q.forwarded) = q := rfl

theorem beginWait_of_waiting {was now : Bool} {x : Transmitter × Nat} (h : now = true → was = true ∨ x.2 = 0) :
    beginWait was now x = x := by
  unfold beginWait
  split
  · next hbegins =>
    obtain ⟨hnow, hwas⟩ := Bool.and_eq_true_iff.mp hbegins
    rcases h hnow with hwas' | hzero
    · rw [hwas'] at hwas
      cases hwas
    · rw [← hzero]
  · rfl

theorem chooseNext_of_busy {up : Bool} {own : Option Transmitter} {waiting : Nat} {x : Transmitter × Nat}
    (h : x.1 ≠ .free) : chooseNext up own waiting x = x := by
  unfold chooseNext
  rw [if_neg (by simp [h])]

theorem chooseNext_of_down {own : Option Transmitter} {waiting : Nat} {x : Transmitter × Nat} :
    chooseNext false own waiting x = x := rfl

theorem chooseNext_of_idle {up : Bool} {x : Transmitter × Nat} : chooseNext up none 0 x = x := by
  unfold chooseNext
  split <;> rfl

/-- A busy transmitter keeps its frame, and its forwarded count where no own frame begins to wait. -/
theorem settle_port_of_busy {before after : State} {p : PortId} (hbusy : (after.port p).tx ≠ .free)
    (hwaits : (after.ownFrame p).isSome = true → (before.ownFrame p).isSome = true ∨ (after.port p).forwarded = 0) :
    (settle before after).port p = after.port p := by
  rw [settle_port_eq, State.arbitrated, beginWait_of_waiting hwaits, chooseNext_of_busy hbusy, Port.withArbiter_self]

theorem sameButPorts_settle (before after : State) : after.sameButPorts (settle before after) := settle_eq before after

/-! ## The ends of transmissions (R150, R155, R159) -/

theorem recordsInFrame_of_other (h : ∀ n l, s.station.tx ≠ .report n l) : s.recordsInFrame = 0 := by
  unfold State.recordsInFrame
  split
  · next n l heq => exact absurd heq (h n l)
  · rfl

theorem ownFrame_eq (s : State) (p : PortId) :
    s.ownFrame p =
      if (s.port p).responseWaits then some .response
      else if p = .station && s.recordsInFrame < s.reports.length then
        some (.report (min Config.reportsPerFrame s.reports.length) s.lost)
      else none := rfl

/-- The own frame of a port whose transmitter carries no PANEL-REPORT. -/
theorem ownFrame_of_no_report {p : PortId} (h : ∀ n l, (s.port p).tx ≠ .report n l) :
    s.ownFrame p =
      if (s.port p).responseWaits then some .response
      else if p = .station ∧ s.reports ≠ [] then some (.report (min 8 s.reports.length) s.lost) else none := by
  rw [ownFrame_eq]
  cases p with
  | field => simp
  | station =>
    rw [recordsInFrame_of_other h]
    simp [List.length_pos_iff, Config.reportsPerFrame]

/-- Two states whose ports carry no PANEL-REPORT and hold the same slots and queue have the same own frame. -/
theorem ownFrame_of_no_reports {p : PortId} (hs : ∀ n l, (s.port p).tx ≠ .report n l)
    (ht : ∀ n l, (t.port p).tx ≠ .report n l) (hslots : (t.port p).slots = (s.port p).slots)
    (hqueue : t.queue = s.queue) : t.ownFrame p = s.ownFrame p := by
  obtain ⟨hreports, hlost⟩ := Prod.mk_inj.mp hqueue
  rw [ownFrame_of_no_report hs, ownFrame_of_no_report ht, hreports, hlost]
  unfold Port.responseWaits
  rw [hslots]

theorem modPort_sameButPorts (s : State) (p : PortId) (f : Port → Port) : s.sameButPorts (s.modPort p f) := by
  cases p <;> rfl

theorem sameButPorts_trans {v : State} (h : s.sameButPorts u) (h' : u.sameButPorts v) : s.sameButPorts v := by
  rw [State.sameButPorts, h', h]

theorem other_sameButArbiter {before after : State} {p : PortId} (h : after.port p = s.port p) :
    (s.port p).sameButArbiter ((settle before after).port p) := by
  have hport := settle_port before after p
  rw [h] at hport
  exact hport

theorem responsesLeave_eq (s : State) (slots : List Slot) :
    s.responsesLeave slots = { s with management := { s.management with
      pendingReset := if slots.any Slot.isKey then s.management.pendingReset.map (fun _ => false)
        else s.management.pendingReset } } := by
  unfold State.responsesLeave
  split <;> rfl

theorem transitFrameSent_ends {p : PortId} (hrunning : s.phase = .running) (htx : (s.port p).tx = .transit) :
    ∃ t, exec (.transitFrameSent p) s = .next t ∧ s.sameButPorts t ∧
      t.port p = { s.port p with fifo := (s.port p).fifo.tail, tx := .gap, justUp := false } ∧
      (s.port (otherPort p)).sameButArbiter (t.port (otherPort p)) := by
  have hsent : s.transitSent p = s.modPort p fun q => { q with fifo := q.fifo.tail, tx := .gap, justUp := false } := by
    unfold State.transitSent
    rw [htx]
  have hown : (s.transitSent p).ownFrame p = s.ownFrame p := by
    refine ownFrame_of_no_reports (fun n l => by rw [htx]; simp) (fun n l => ?_) ?_ ?_
    · rw [hsent, modPort_port]
      simp
    · rw [hsent, modPort_port]
    · rw [hsent]
      exact Prod.ext (modPort_reports _ _ _) (modPort_lost _ _ _)
  refine ⟨_, perform_running (f := fun s => s.transitSent p) hrunning, sameButPorts_trans ?_ (sameButPorts_settle _ _), ?_, other_sameButArbiter ?_⟩
  · rw [hsent]
    exact modPort_sameButPorts _ _ _
  · rw [settle_port_of_busy, hsent, modPort_port]
    · rw [hsent, modPort_port]
      simp
    · rw [hown]
      exact .inl
  · rw [hsent, modPort_other]

theorem mgmtRspSent_ends {p : PortId} (hrunning : s.phase = .running) (htx : (s.port p).tx = .response) :
    ∃ t, exec (.mgmtRspSent p) s = .next t ∧ { s with management := t.management }.sameButPorts t ∧
      t.port p = { s.port p with slots := (s.port p).slots.tail, forwarded := 0, tx := .gap, justUp := false } ∧
      (s.port (otherPort p)).sameButArbiter (t.port (otherPort p)) ∧
      t.management = { s.management with
        pendingReset := if ((s.port p).slots.take 1).any Slot.isKey then s.management.pendingReset.map (fun _ => false)
          else s.management.pendingReset } := by
  have hsent : s.responseSent p =
      { s.modPort p (fun q => { q.ownSent with slots := q.slots.tail }) with management := { s.management with
        pendingReset := if ((s.port p).slots.take 1).any Slot.isKey then s.management.pendingReset.map (fun _ => false)
          else s.management.pendingReset } } := by
    unfold State.responseSent
    rw [htx]
    dsimp only
    rw [responsesLeave_eq, modPort_management]
  have hport : (s.responseSent p).port p =
      { s.port p with slots := (s.port p).slots.tail, forwarded := 0, tx := .gap, justUp := false } := by
    rw [hsent]
    cases p <;> rfl
  refine ⟨_, perform_running (f := fun s => s.responseSent p) hrunning, ?_, ?_, other_sameButArbiter ?_, ?_⟩
  · refine sameButPorts_trans (u := s.responseSent p) ?_ (sameButPorts_settle _ _)
    show s.responseSent p = _
    rw [show (settle s (s.responseSent p)).management = (s.responseSent p).management from rfl, hsent]
    cases p <;> rfl
  · rw [settle_port_of_busy, hport]
    · rw [hport]
      simp
    · exact fun _ => .inr (by rw [hport])
  · rw [hsent]
    cases p <;> rfl
  · show (s.responseSent p).management = _
    rw [hsent]

theorem panelReportSent_ends {n l : Nat} (hrunning : s.phase = .running) (htx : s.station.tx = .report n l) :
    ∃ t, exec .panelReportSent s = .next t ∧
      { s with reports := s.reports.drop n, lost := s.lost - l }.sameButPorts t ∧
      t.station = { s.station with forwarded := 0, tx := .gap, justUp := false } ∧ s.field.sameButArbiter t.field := by
  have hsent : s.reportSent = { s with
      reports := s.reports.drop n, lost := s.lost - l
      station := { s.station with forwarded := 0, tx := .gap, justUp := false } } := by
    unfold State.reportSent
    rw [htx]
    rfl
  refine ⟨_, perform_running hrunning, ?_, ?_, other_sameButArbiter (p := .field) ?_⟩
  · refine sameButPorts_trans (u := s.reportSent) ?_ (sameButPorts_settle _ _)
    rw [hsent]
  · refine (settle_port_of_busy (p := .station) ?_ fun _ => .inr ?_).trans ?_
    · rw [hsent]
      simp [State.port]
    · rw [hsent]
      rfl
    · rw [hsent]
      rfl
  · rw [hsent]
    rfl

/-- Settles O57. -/
theorem transmissionsEnd : Obligations.TransmissionsEnd := by
  unfold Obligations.TransmissionsEnd
  exact fun s hrunning => ⟨fun p htx => transitFrameSent_ends hrunning htx, fun p htx => mgmtRspSent_ends hrunning htx,
    fun n l htx => panelReportSent_ends hrunning htx⟩

/-! ## The choice of a free transmitter (R151, R152) -/

/-- The own frame of a port in the words of R152. -/
theorem ownFrame_of_gap {p : PortId} (htx : (s.port p).tx = .gap) :
    s.ownFrame p =
      match (s.port p).slots.head? with
      | some (.filled _ _) => some .response
      | _ => if p = .station ∧ s.reports ≠ [] then some (.report (min 8 s.reports.length) s.lost) else none := by
  rw [ownFrame_of_no_report (fun n l => by rw [htx]; simp)]
  unfold Port.responseWaits
  cases hslots : (s.port p).slots with
  | nil => rfl
  | cons slot rest =>
    cases slot <;> rfl

theorem chooseNext_free_idle {waiting n : Nat} :
    chooseNext true none waiting (.free, n) = if waiting = 0 then (.free, n) else (.transit, n) := rfl

theorem chooseNext_free_own {x : Transmitter} {waiting n : Nat} :
    chooseNext true (some x) waiting (.free, n) =
      if waiting = 0 then (x, n) else if n < 4 then (.transit, n + 1) else (x, n) := rfl

theorem transmitterFree_chooses {p : PortId} {own : Option Transmitter} (hrunning : s.phase = .running)
    (hup : (s.port p).status = .up) (htx : (s.port p).tx = .gap) (hown : s.ownFrame p = own) :
    ∃ t, exec (.transmitterFree p) s = .next t ∧ s.sameButPorts t ∧
      (s.port (otherPort p)).sameButArbiter (t.port (otherPort p)) ∧
      t.port p = (s.port p).withArbiter
        (chooseNext true own (s.port p).fifo.length (.free, (s.port p).forwarded)) := by
  have hpassed : s.gapPassed p = s.modPort p fun q => { q with tx := .free } := by
    unfold State.gapPassed
    rw [htx]
  have hsame : (s.gapPassed p).ownFrame p = own := by
    refine (ownFrame_of_no_reports (fun n l => by rw [htx]; simp) (fun n l => ?_) ?_ ?_).trans hown
    · rw [hpassed, modPort_port]
      simp
    · rw [hpassed, modPort_port]
    · rw [hpassed]
      exact Prod.ext (modPort_reports _ _ _) (modPort_lost _ _ _)
  refine ⟨_, perform_running (f := fun s => s.gapPassed p) hrunning, sameButPorts_trans ?_ (sameButPorts_settle _ _), other_sameButArbiter ?_, ?_⟩
  · rw [hpassed]
    exact modPort_sameButPorts _ _ _
  · rw [hpassed, modPort_other]
  · rw [settle_port_eq, State.arbitrated, hsame, hown, beginWait_of_waiting .inl, hpassed, modPort_port]
    show (s.port p).withArbiter
      (chooseNext (decide ((s.port p).status = .up)) own (s.port p).fifo.length (.free, (s.port p).forwarded)) = _
    rw [decide_eq_true hup]

theorem arbiterTakesFrame {p : PortId} (hrunning : s.phase = .running) (hup : (s.port p).status = .up)
    (htx : (s.port p).tx = .gap) :
    let q := s.port p
    let own : Option Transmitter :=
      match q.slots.head? with
      | some (.filled _ _) => some .response
      | _ => if p = .station ∧ s.reports ≠ [] then some (.report (min 8 s.reports.length) s.lost) else none
    ∃ t, exec (.transmitterFree p) s = .next t ∧ s.sameButPorts t ∧
      (s.port (otherPort p)).sameButArbiter (t.port (otherPort p)) ∧
      (own = none → q.fifo = [] → t.port p = { q with tx := .free }) ∧
      (own = none → q.fifo ≠ [] → t.port p = { q with tx := .transit }) ∧
      ∀ x, own = some x →
        (q.fifo = [] → t.port p = { q with tx := x }) ∧
        (q.fifo ≠ [] → q.forwarded < 4 → t.port p = { q with tx := .transit, forwarded := q.forwarded + 1 }) ∧
        (q.fifo ≠ [] → 4 ≤ q.forwarded → t.port p = { q with tx := x }) := by
  intro q own
  obtain ⟨t, hnext, hreach, hother, hport⟩ := transmitterFree_chooses hrunning hup htx (ownFrame_of_gap htx)
  change t.port p = q.withArbiter (chooseNext true own q.fifo.length (.free, q.forwarded)) at hport
  have hlength : q.fifo ≠ [] → q.fifo.length ≠ 0 := fun h hzero => h (List.length_eq_zero_iff.mp hzero)
  refine ⟨t, hnext, hreach, hother, fun hnone hempty => ?_, fun hnone hfull => ?_, fun x hsome =>
    ⟨fun hempty => ?_, fun hfull hbelow => ?_, fun hfull habove => ?_⟩⟩
  · rw [hport, hnone, chooseNext_free_idle, if_pos (by rw [hempty]; rfl)]
    rfl
  · rw [hport, hnone, chooseNext_free_idle, if_neg (hlength hfull)]
    rfl
  · rw [hport, hsome, chooseNext_free_own, if_pos (by rw [hempty]; rfl)]
    rfl
  · rw [hport, hsome, chooseNext_free_own, if_neg (hlength hfull), if_pos hbelow]
    rfl
  · rw [hport, hsome, chooseNext_free_own, if_neg (hlength hfull), if_neg (Nat.not_lt.mpr habove)]
    rfl

/-! ## A frame toward a port that has just gone UP (R143, R161) -/

theorem performConsole_acts {c : ConsoleFrame} {code : Byte} {act : State → State}
    (hact : consoleTaken c = true → Acts s (act s)) :
    ∃ act', performConsole s c code act = performFrame s c.port (consoleFrame c code) act' ∧ Acts s (act' s) := by
  refine ⟨_, rfl, ?_⟩
  split
  · next htaken => exact hact (Bool.and_eq_true_iff.mp htaken).1
  · exact .refl

/-- A forwarded command is a frame that passes, whatever acts its blocks carry out. -/
theorem forwards_acts {q : PortId} {i : Instr} (h : s.forwards q i) :
    ∃ f act, exec i s = performFrame s q f act ∧ Acts s (act s) := by
  have console : ∀ {c : ConsoleFrame} {code : Byte} {act : State → State}, c.port = q →
      (consoleTaken c = true → Acts s (act s)) →
      ∃ f act', performConsole s c code act = performFrame s q f act' ∧ Acts s (act' s) := fun hport hact => by
    obtain ⟨act', heq, hacts⟩ := performConsole_acts hact
    exact ⟨_, act', hport ▸ heq, hacts⟩
  unfold State.forwards at h
  cases i with
  | scanState f =>
    subst h
    refine ⟨_, _, rfl, ?_⟩
    split
    · exact .refl
    · exact takeScanState_acts s _
  | scanChange f =>
    subst h
    refine ⟨_, _, rfl, ?_⟩
    split
    · exact .refl
    · exact takeScanChange_acts s _
  | unitStatus f => exact h ▸ ⟨_, _, rfl, takeUnitStatus_acts s f.body⟩
  | timeMark f => exact h ▸ ⟨_, _, rfl, takeTimeMark_acts s f.body⟩
  | otherFrame p f =>
    obtain ⟨rfl, hother⟩ := h
    exact ⟨f, id, if_pos hother, .refl⟩
  | ack c => exact console h fun _ => onWindows_acts s c 1 fun w s => .ackWindow w
  | reset c => exact console h fun _ => onWindows_acts s c 2 fun w s => .resetWindow w
  | silence c => exact console h fun _ => .single .silence
  | lampTestStart c => exact console (act := State.startLampTest) h fun _ => .single (.sensing _ rfl)
  | lampTestStop c => exact console h fun _ => stopLampTest_acts s
  | select c =>
    exact console h fun htaken => takeSelect_acts (of_decide_eq_true (Bool.and_eq_true_iff.mp htaken).1)
  | execute c => exact console h fun _ => takeExecute_acts s c
  | cancel c => exact console h fun _ => takeCancel_acts s c
  | _ => cases h

theorem offer_fifo_ne_nil {p : PortId} {f : Frame} (hup : (s.port (otherPort p)).status = .up) :
    ((s.offer p f).port (otherPort p)).fifo ≠ [] := by
  rw [(offer_ports s p f).1, State.joinedBy]
  dsimp only
  split
  · next hkept =>
    rcases hkept with hdown | hfull
    · rw [hup] at hdown
      cases hdown
    · exact fun hnil => by
        rw [State.fullToward, hnil] at hfull
        exact absurd hfull (by decide)
  · exact List.append_ne_nil_of_right_ne_nil _ (List.cons_ne_nil _ _)

/-- The first choice of a port that goes UP with a frame toward it is the transit head (R161). -/
theorem frameToRisenPort {p : PortId} {i : Instr} (hreceives : s.receives (otherPort p) = true)
    (hforwards : s.forwards (otherPort p) i) (hup : (s.port p).status = .up) (hjust : (s.port p).justUp = true) :
    ∃ t, exec i s = .next t ∧ (t.port p).justUp = true ∧ (t.port p).tx = .transit ∧
      (t.port p).forwarded = if (t.port p).responseWaits = true ∨ p = .station ∧ t.reports ≠ [] then 1 else 0 := by
  obtain ⟨f, act, hexec, hacts⟩ := forwards_acts hforwards
  have hport : (act s).port p = s.port p := hacts.port_eq p
  have hchoice := passFrame_firstChoice s (otherPort p) f act (by rw [otherPort_otherPort, hport, hjust])
  have hjoined := (offer_ports (act s) (otherPort p) f).1
  have hne := offer_fifo_ne_nil (s := act s) (p := otherPort p) (f := f) (by rw [otherPort_otherPort, hport, hup])
  rw [otherPort_otherPort] at hchoice hjoined hne
  have hstatus : (((act s).offer (otherPort p) f).port p).status = .up := by
    rw [hjoined]
    show ((act s).port (otherPort (otherPort p))).status = .up
    rw [otherPort_otherPort, hport, hup]
  rw [firstChoice_transit hstatus hne] at hchoice
  have hreports : (passFrame s (otherPort p) f act).reports = ((act s).offer (otherPort p) f).reports := by
    rw [passFrame_view, offer_view]
  refine ⟨_, hexec.trans (performFrame_received hreceives), ?_, ?_, ?_⟩
  · rw [hchoice]
    show (((act s).offer (otherPort p) f).port p).justUp = true
    rw [hjoined]
    show ((act s).port (otherPort (otherPort p))).justUp = true
    rw [otherPort_otherPort, hport, hjust]
  · rw [hchoice]
    rfl
  · rw [hreports, hchoice]
    rfl

/-- Settles O58. -/
theorem arbiterChooses : Obligations.ArbiterChooses := by
  unfold Obligations.ArbiterChooses
  exact ⟨fun s p hrunning hup htx => arbiterTakesFrame hrunning hup htx,
    fun s p i hreceives hforwards hup hjust => frameToRisenPort hreceives hforwards hup hjust⟩

end Sys2Proof.Machine
end

section
/-! Settles O56: the failure counters and the moves of the ports (R142, R143, R145, R146, R151, R155, R161). -/

namespace Sys2Proof.Machine

variable {s t u : State}

/-! ## What the arbiter of a settled port sees -/

theorem ownFrame_of_port {p : PortId} (htx : (t.port p).tx = (s.port p).tx) (hslots : (t.port p).slots = (s.port p).slots)
    (hqueue : t.queue = s.queue) : t.ownFrame p = s.ownFrame p := by
  obtain ⟨hreports, hlost⟩ := Prod.mk_inj.mp hqueue
  rw [ownFrame_eq, ownFrame_eq]
  unfold Port.responseWaits
  rw [hslots, hreports, hlost]
  cases p with
  | field => rfl
  | station =>
    have hcount : t.recordsInFrame = s.recordsInFrame := by
      unfold State.recordsInFrame
      rw [show t.station.tx = s.station.tx from htx]
    rw [hcount]

/-- A port that a settled state and another share in all that its arbiter sees. -/
structure State.sameSide (s t : State) (p : PortId) : Prop where
  status : (t.port p).status = (s.port p).status
  fifo : (t.port p).fifo = (s.port p).fifo
  slots : (t.port p).slots = (s.port p).slots
  tx : (t.port p).tx = (s.port p).tx
  queue : t.queue = s.queue

theorem State.sameSide.ownFrame {p : PortId} (h : s.sameSide t p) : t.ownFrame p = s.ownFrame p :=
  ownFrame_of_port h.tx h.slots h.queue

theorem State.sameSide.settledAt {p : PortId} (h : s.sameSide t p) (hs : s.settledAt p) : t.settledAt p := by
  unfold State.settledAt
  rw [h.status, h.tx, h.fifo, h.ownFrame]
  exact hs

/-- The arbiter of a settled port, whose own frame waits as before, does nothing. -/
theorem arbitrated_of_settled {before after : State} {p : PortId} (hown : before.ownFrame p = after.ownFrame p)
    (hsettled : after.settledAt p) : before.arbitrated after p = ((after.port p).tx, (after.port p).forwarded) := by
  unfold State.arbitrated
  rw [hown]
  dsimp only
  rw [beginWait_of_waiting .inl]
  by_cases hup : (after.port p).status = .up
  · by_cases hfree : (after.port p).tx = .free
    · obtain ⟨hfifo, hnone⟩ := hsettled hup hfree
      rw [hfifo, hnone]
      exact chooseNext_of_idle
    · exact chooseNext_of_busy hfree
  · rw [decide_eq_false hup]
    rfl

theorem settle_port_of_settled {before after : State} {p : PortId} (hown : before.ownFrame p = after.ownFrame p)
    (hsettled : after.settledAt p) : (settle before after).port p = after.port p := by
  rw [settle_port_eq, arbitrated_of_settled hown hsettled, Port.withArbiter_self]

theorem modPort_withArbiter_self (s : State) (p : PortId) :
    (s.modPort p fun q => q.withArbiter ((s.port p).tx, (s.port p).forwarded)) = s := by
  cases p <;> rfl

theorem settlePort_of_settled {before after : State} {p : PortId} (hown : before.ownFrame p = after.ownFrame p)
    (hsettled : after.settledAt p) : settlePort before p after = after := by
  rw [settlePort_eq, arbitrated_of_settled hown hsettled, modPort_withArbiter_self]

/-! ## A frame that no block acts on, toward a resting port and toward one that has gone UP -/

theorem offer_status (s : State) (p : PortId) (f : Frame) :
    ((s.offer p f).port (otherPort p)).status = (s.port (otherPort p)).status := by
  rw [(offer_ports s p f).1]
  rfl

theorem offer_justUp (s : State) (p : PortId) (f : Frame) :
    ((s.offer p f).port (otherPort p)).justUp = (s.port (otherPort p)).justUp := by
  rw [(offer_ports s p f).1]
  rfl

theorem passFrame_toward_resting {p : PortId} {f : Frame} (hresting : (s.port (otherPort p)).status ≠ .up)
    (hjust : (s.port (otherPort p)).justUp = false) : passFrame s p f id = settlePort s p (s.offer p f) := by
  have hup : decide (((s.offer p f).port (otherPort p)).status = .up) = false := by
    rw [offer_status, decide_eq_false hresting]
  have hnot : ((s.offer p f).port (otherPort p)).justUp = false := (offer_justUp s p f).trans hjust
  unfold passFrame
  simp only [id_eq, hup, hnot, frameFirst, blocksFirst, chooseNext_of_down, beginWait_of_waiting Or.inl, if_true,
    Bool.false_eq_true, if_false, decide_true, Bool.false_or]
  rw [modPort_withArbiter_self]

theorem passFrame_toward_risen {p : PortId} {f : Frame} (hjust : (s.port (otherPort p)).justUp = true) :
    passFrame s p f id = settlePort s p
      ((s.offer p f).modPort (otherPort p) fun q => q.withArbiter ((s.offer p f).firstChoice (otherPort p))) := by
  have hrisen : ((s.offer p f).port (otherPort p)).justUp = true := (offer_justUp s p f).trans hjust
  unfold passFrame
  simp only [id_eq, hrisen, if_true, Bool.true_or]
  cases p <;> rfl

/-! ## A port that goes UP together with a frame toward it (R161) -/

/-- A port as it goes UP. -/
def Port.risen (q : Port) : Port := { q with status := .up, justUp := true }

theorem portGoesUp_eq {p : PortId} (h : (s.port p).status = .training) : s.portGoesUp p = s.modPort p Port.risen :=
  if_pos h

theorem portUp_next {p : PortId} (hrunning : s.phase = .running) (h : (s.port p).status = .training) :
    exec (.portUp p) s = .next (settle s (s.modPort p Port.risen)) := by
  rw [← portGoesUp_eq h]
  exact perform_running (f := fun s => s.portGoesUp p) hrunning

theorem otherFrame_next {p : PortId} {f : Frame} (hreceives : s.receives p = true) (hother : s.noBlockActs f = true) :
    exec (.otherFrame p f) s = .next (passFrame s p f id) := by
  show (if s.noBlockActs f then performFrame s p f id else .next s) = _
  rw [if_pos hother, performFrame_received hreceives]

/-- Two states that differ in nothing but the ports, and whose ports agree. -/
theorem eq_of_ports {v : State} (hu : u = { s with field := u.field, station := u.station })
    (hv : v = { s with field := v.field, station := v.station }) (h : ∀ q, u.port q = v.port q) : u = v := by
  have hfield : u.field = v.field := h .field
  have hstation : u.station = v.station := h .station
  rw [hu, hv, hfield, hstation]

theorem onlyPorts_trans {v : State} (hu : u = { s with field := u.field, station := u.station })
    (hv : v = { u with field := v.field, station := v.station }) :
    v = { s with field := v.field, station := v.station } := hv.trans (by rw [hu])

section Rises

variable {p : PortId} {f : Frame}

theorem settle_queue (before after : State) : (settle before after).queue = after.queue := rfl

theorem modPort_queue (s : State) (p : PortId) (g : Port → Port) : (s.modPort p g).queue = s.queue :=
  Prod.ext (modPort_reports s p g) (modPort_lost s p g)

/-- What the other port's arbiter sees is not moved by a port's going UP. -/
theorem sameSide_modPort (s : State) (p : PortId) (g : Port → Port) : s.sameSide (s.modPort p g) (otherPort p) := by
  have hport := modPort_other s p g
  exact ⟨by rw [hport], by rw [hport], by rw [hport], by rw [hport], modPort_queue s p g⟩

/-- An offer counts at the port on which the frame arrived, and no more. -/
theorem sameSide_offer (s : State) (p : PortId) (f : Frame) : s.sameSide (s.offer p f) p := by
  have hport := (offer_ports s p f).2
  exact ⟨by rw [hport]; rfl, by rw [hport]; rfl, by rw [hport]; rfl, by rw [hport]; rfl, offer_queue s p f⟩

theorem State.sameSide.trans {v : State} (h : s.sameSide u p) (h' : u.sameSide v p) : s.sameSide v p :=
  ⟨h'.status.trans h.status, h'.fifo.trans h.fifo, h'.slots.trans h.slots, h'.tx.trans h.tx, h'.queue.trans h.queue⟩

/-- The part as a TRAINING port goes UP, at the end of the step. -/
def State.afterRise (s : State) (p : PortId) : State := settle s (s.modPort p Port.risen)

theorem afterRise_other (hsettled : s.settledAt (otherPort p)) :
    (s.afterRise p).port (otherPort p) = s.port (otherPort p) := by
  have hside := sameSide_modPort s p Port.risen
  exact (settle_port_of_settled hside.ownFrame.symm (hside.settledAt hsettled)).trans (modPort_other _ _ _)

theorem afterRise_own (s : State) (p : PortId) :
    (s.afterRise p).port p = (s.port p).risen.withArbiter (s.arbitrated (s.modPort p Port.risen) p) := by
  rw [State.afterRise, settle_port_eq, modPort_port]

theorem afterRise_sameSide (hsettled : s.settledAt (otherPort p)) : s.sameSide (s.afterRise p) (otherPort p) := by
  have hport := afterRise_other hsettled
  exact ⟨by rw [hport], by rw [hport], by rw [hport], by rw [hport],
    (settle_queue s (s.modPort p Port.risen)).trans (modPort_queue s p Port.risen)⟩

theorem afterRise_view (s : State) (p : PortId) :
    s.afterRise p = { s with field := (s.afterRise p).field, station := (s.afterRise p).station } := by
  have hview : s.afterRise p = { s.modPort p Port.risen with
    field := (s.afterRise p).field, station := (s.afterRise p).station } := settle_eq _ _
  rw [modPort_view] at hview
  exact hview

/-- A frame offered toward a port joins its FIFO, or counts, the same before and after the port goes UP. -/
theorem afterRise_joinedBy (hstatus : (s.port p).status = .training) :
    ((s.afterRise p).joinedBy (otherPort p) f).fifo = (s.joinedBy (otherPort p) f).fifo := by
  have hown := afterRise_own s p
  have hfifo : ((s.afterRise p).port p).fifo = (s.port p).fifo := by rw [hown]; rfl
  have hup : ((s.afterRise p).port p).status = .up := by rw [hown]; rfl
  unfold State.joinedBy State.fullToward
  simp only [otherPort_otherPort, hfifo, hup, hstatus, reduceCtorEq, false_or]

theorem afterRise_countedAt (hstatus : (s.port p).status = .training) (hsettled : s.settledAt (otherPort p)) :
    (s.afterRise p).countedAt (otherPort p) = s.countedAt (otherPort p) := by
  have hown := afterRise_own s p
  have hfifo : ((s.afterRise p).port p).fifo = (s.port p).fifo := by rw [hown]; rfl
  have hup : ((s.afterRise p).port p).status = .up := by rw [hown]; rfl
  unfold State.countedAt State.fullToward
  simp only [otherPort_otherPort, afterRise_other hsettled, hfifo, hup, hstatus, reduceCtorEq, ne_eq, not_false_eq_true,
    true_and]

/-- The offer of a frame toward `p`, in the words of `p`. -/
theorem offer_toward (s : State) (p : PortId) (f : Frame) :
    (s.offer (otherPort p) f).port p = s.joinedBy (otherPort p) f := by
  have hport := (offer_ports s (otherPort p) f).1
  rwa [otherPort_otherPort] at hport

theorem firstChoice_eq (hup : (s.port p).status = .up) :
    s.firstChoice p =
      chooseNext true ((s.modPort p fun q => q.withArbiter (.free, 0)).ownFrame p) (s.port p).fifo.length (.free, 0) := by
  unfold State.firstChoice
  dsimp only
  rw [modPort_port]
  show chooseNext (decide ((s.port p).status = .up)) _ (s.port p).fifo.length _ = _
  rw [decide_eq_true hup]

theorem joinedBy_toward (s : State) (p : PortId) (f : Frame) :
    s.joinedBy (otherPort p) f = { s.port p with fifo := (s.joinedBy (otherPort p) f).fifo } := by
  conv_lhs => unfold State.joinedBy
  unfold State.joinedBy
  simp only [otherPort_otherPort]

/-- The choice at the end of a step of a port that rises from rest. -/
theorem arbitrated_risen (hfree : (s.port p).tx = .free) (hzero : (s.port p).forwarded = 0) :
    s.arbitrated (s.modPort p Port.risen) p =
      chooseNext true ((s.modPort p Port.risen).ownFrame p) (s.port p).fifo.length (.free, 0) := by
  unfold State.arbitrated
  rw [modPort_port]
  show chooseNext true _ (s.port p).fifo.length (beginWait _ _ ((s.port p).tx, (s.port p).forwarded)) = _
  rw [hfree, hzero, beginWait_of_waiting fun _ => .inr rfl]

/-- A port that has risen from rest, and the frame offered then, make the first choice of the frame offered first. -/
theorem firstChoice_afterRise (hfree : (s.port p).tx = .free) (hzero : (s.port p).forwarded = 0)
    (hstatus : (s.port p).status = .training) :
    (s.offer (otherPort p) f).arbitrated ((s.offer (otherPort p) f).modPort p Port.risen) p =
      ((s.afterRise p).offer (otherPort p) f).firstChoice p := by
  have hrose := afterRise_own s p
  have hbefore := offer_toward s p f
  have hafter := offer_toward (s.afterRise p) p f
  rw [joinedBy_toward] at hbefore
  rw [joinedBy_toward, afterRise_joinedBy hstatus, hrose] at hafter
  rw [arbitrated_risen (by rw [hbefore, hfree]) (by rw [hbefore, hzero]), firstChoice_eq (by rw [hafter]; rfl), hbefore, hafter]
  have hown : (((s.afterRise p).offer (otherPort p) f).modPort p fun q => q.withArbiter (.free, 0)).ownFrame p =
      ((s.offer (otherPort p) f).modPort p Port.risen).ownFrame p := by
    refine ownFrame_of_port ?_ ?_ ?_
    · rw [modPort_port, modPort_port, hbefore]
      exact hfree.symm
    · rw [modPort_port, modPort_port, hbefore, hafter]
      rfl
    · rw [modPort_queue, modPort_queue, offer_queue, offer_queue]
      exact (settle_queue s (s.modPort p Port.risen)).trans (modPort_queue s p Port.risen)
  rw [hown]

/-- A frame toward a port that goes UP may come first or last. -/
theorem riseCommutes (hlink : s.linkOk) (hstatus : (s.port p).status = .training) :
    (s.offer (otherPort p) f).afterRise p = passFrame (s.afterRise p) (otherPort p) f id := by
  obtain ⟨hfield, hstation, hsettled, -⟩ := hlink
  have hok : (s.port p).ok := by
    cases p
    · exact hfield
    · exact hstation
  obtain ⟨-, -, -, harbiter⟩ := (Port.ok_iff _).mp hok
  obtain ⟨hfree, hzero⟩ := harbiter.resting (by rw [hstatus]; decide)
  dsimp only at hfree hzero
  have hother := hsettled (otherPort p)
  have hrose := afterRise_own s p
  have hjust : ((s.afterRise p).port (otherPort (otherPort p))).justUp = true := by
    rw [otherPort_otherPort, hrose]
    rfl
  rw [passFrame_toward_risen hjust, otherPort_otherPort]
  generalize hchoice : ((s.afterRise p).offer (otherPort p) f).firstChoice p = x
  have hafter : (s.afterRise p).sameSide (((s.afterRise p).offer (otherPort p) f).modPort p fun q => q.withArbiter x)
      (otherPort p) := (sameSide_offer _ _ _).trans (sameSide_modPort _ _ _)
  rw [settlePort_of_settled hafter.ownFrame.symm (hafter.settledAt ((afterRise_sameSide hother).settledAt hother))]
  refine eq_of_ports (s := s) ?_ ?_ fun q => ?_
  · exact onlyPorts_trans (offer_view _ _ _) (afterRise_view _ _)
  · exact onlyPorts_trans (onlyPorts_trans (afterRise_view _ _) (offer_view _ _ _)) (modPort_view _ _ _)
  by_cases hq : q = p
  · subst hq
    rw [afterRise_own, modPort_port, ← hchoice, firstChoice_afterRise hfree hzero hstatus, offer_toward, offer_toward,
      joinedBy_toward s, joinedBy_toward (s.afterRise q), afterRise_joinedBy hstatus, hrose]
    rfl
  · obtain rfl := eq_otherPort_of_ne hq
    rw [afterRise_other ((sameSide_offer s _ f).settledAt hother), modPort_other, (offer_ports s _ f).2,
      (offer_ports (s.afterRise p) _ f).2, afterRise_countedAt hstatus hother]

end Rises

/-! ## The counters and the moves (R142, R143, R145, R146) -/

theorem countFailure_next {p : PortId} (hreceives : s.receives p = true) (g : Port → Port) :
    countFailure s p g = .next (s.modPort p g) := by
  unfold countFailure
  rw [if_pos hreceives]

theorem movePort_next {p : PortId} {g : Port → Port} {act : State → State} (hrunning : s.phase = .running)
    (hact : act s = s.modPort p g) :
    ∃ t, perform s act = .next t ∧ s.sameButPorts t ∧ Port.sameButArbiter (g (s.port p)) (t.port p) ∧
      (s.port (otherPort p)).sameButArbiter (t.port (otherPort p)) := by
  refine ⟨_, perform_running hrunning, sameButPorts_trans ?_ (sameButPorts_settle _ _), ?_, other_sameButArbiter ?_⟩
  · rw [hact]
    exact modPort_sameButPorts _ _ _
  · have hport := settle_port s (act s) p
    rw [hact, modPort_port] at hport
    rw [hact]
    exact hport
  · rw [hact, modPort_other]

theorem noBlockActs_congr (hstraps : t.straps = s.straps) (f : Frame) : t.noBlockActs f = s.noBlockActs f := by
  unfold State.noBlockActs State.panelAddress
  rw [hstraps]

theorem portUp_commutes {p : PortId} {f : Frame} (hlink : s.linkOk) (hstatus : (s.port p).status = .training)
    (hreceives : s.receives (otherPort p) = true) (hother : s.noBlockActs f = true) :
    ∃ offered both, exec (.otherFrame (otherPort p) f) s = .next offered ∧
      exec (.otherFrame (otherPort p) f) (s.afterRise p) = .next both ∧ exec (.portUp p) offered = .next both := by
  have hcommutes := riseCommutes (f := f) hlink hstatus
  obtain ⟨hfield, hstation, hsettled, -⟩ := hlink
  have hok : (s.port p).ok := by
    cases p
    · exact hfield
    · exact hstation
  obtain ⟨-, -, hjust, -⟩ := (Port.ok_iff _).mp hok
  have hnotJust : (s.port p).justUp = false := by
    rw [Bool.eq_false_iff]
    intro hrisen
    rw [hjust hrisen] at hstatus
    cases hstatus
  have hside := sameSide_offer s (otherPort p) f
  have hpassed : passFrame s (otherPort p) f id = s.offer (otherPort p) f := by
    rw [passFrame_toward_resting (by rw [otherPort_otherPort, hstatus]; decide) (by rw [otherPort_otherPort, hnotJust]),
      settlePort_of_settled hside.ownFrame.symm (hside.settledAt (hsettled (otherPort p)))]
  have hview := afterRise_view s p
  have hphase : (s.afterRise p).phase = s.phase := by rw [hview]
  have hstraps : (s.afterRise p).straps = s.straps := by rw [hview]
  have hreceivesAfter : (s.afterRise p).receives (otherPort p) = true := by
    unfold State.receives
    rw [hphase, afterRise_other (hsettled (otherPort p))]
    exact hreceives
  have hrunning := receives_running hreceives
  have hofferedPhase : (s.offer (otherPort p) f).phase = .running := by
    rw [offer_view]
    exact hrunning
  refine ⟨_, _, (otherFrame_next hreceives hother).trans (congrArg _ hpassed),
    otherFrame_next hreceivesAfter ((noBlockActs_congr hstraps f).trans hother), ?_⟩
  rw [portUp_next hofferedPhase (by rw [offer_toward, joinedBy_toward]; exact hstatus)]
  exact congrArg _ hcommutes

/-- A port as it goes DOWN: all that waits for it is discarded (R143, R151, R155). -/
def Port.fallen (q : Port) : Port :=
  { q with status := .down, fifo := [], slots := [], forwarded := 0, tx := .free, justUp := false }

theorem portDown_discards {p : PortId} (hrunning : s.phase = .running) (hup : (s.port p).status ≠ .down) :
    ∃ t, exec (.portDown p) s = .next t ∧ { s with management := t.management }.sameButHealth t ∧
      t.port p = (s.port p).fallen ∧ (s.port (otherPort p)).sameButArbiter (t.port (otherPort p)) ∧
      t.health.flags = s.health.flags ||| BitVec.twoPow 11 8 ∧
      t.management = { s.management with
        pendingReset := if (s.port p).slots.any Slot.isKey then s.management.pendingReset.map (fun _ => false)
          else s.management.pendingReset } := by
  obtain ⟨m, hm⟩ : ∃ m : Management, m = { s.management with
      pendingReset := if (s.port p).slots.any Slot.isKey then s.management.pendingReset.map (fun _ => false)
        else s.management.pendingReset } := ⟨_, rfl⟩
  obtain ⟨u, hu⟩ : ∃ u : State, u = { s.modPort p Port.fallen with management := m } := ⟨_, rfl⟩
  have hfalls : s.portGoesDown p = u.setFlag flagLinkDown := by
    unfold State.portGoesDown
    dsimp only
    rw [responsesLeave_eq, modPort_management, hu, hm]
    rfl
  have hview := setFlag_view u flagLinkDown
  have hown : (u.setFlag flagLinkDown).port p = (s.port p).fallen := by
    rw [port_of_offHealth hview, hu]
    exact modPort_port s p Port.fallen
  have hnext : exec (.portDown p) s = .next (settle s (u.setFlag flagLinkDown)) := by
    rw [← hfalls]
    refine (perform_running (f := fun s => if (s.port p).status = .down then s else s.portGoesDown p) hrunning).trans ?_
    rw [if_neg hup]
  have hports := sameButPorts_settle s (u.setFlag flagLinkDown)
  have hmanagement : (settle s (u.setFlag flagLinkDown)).management = m :=
    (management_of_offHealth hview).trans (by rw [hu])
  have hreach : { s with management := m }.sameButHealth (settle s (u.setFlag flagLinkDown)) := by
    have hreach := sameButHealth_of hports hview
    generalize settle s (u.setFlag flagLinkDown) = v at hreach
    rw [hu, modPort_view] at hreach
    exact hreach
  refine ⟨_, hnext, by rw [hmanagement]; exact hreach, ?_, other_sameButArbiter ?_, ?_, hmanagement.trans hm⟩
  · rw [settle_port_eq, State.arbitrated, hown, beginWait_of_waiting fun _ => .inr rfl]
    rfl
  · rw [port_of_offHealth hview, hu]
    exact modPort_other s p Port.fallen
  · rw [health_of_ports hports, setFlag_flags, hu, show ({ s.modPort p Port.fallen with management := m } : State).health =
      s.health from modPort_health s p _]
    rfl

/-- Settles O56. -/
theorem failuresCountedAndPortsMove : Obligations.FailuresCountedAndPortsMove := by
  unfold Obligations.FailuresCountedAndPortsMove
  refine ⟨fun s p hreceives => ⟨countFailure_next hreceives _, countFailure_next hreceives _, countFailure_next hreceives _⟩,
    fun s p hrunning => ⟨fun hdown => ?_, fun htraining => ?_, fun hup => portDown_discards hrunning hup⟩⟩
  · exact movePort_next (act := fun s => s.portTrains p) hrunning (if_pos hdown)
  · obtain ⟨t, hnext, hreach, hown, hother⟩ := movePort_next (act := fun s => s.portGoesUp p) hrunning
      (portGoesUp_eq htraining)
    obtain rfl : s.afterRise p = t := eq_of_next ((portUp_next hrunning htraining).symm.trans hnext)
    exact ⟨_, hnext, hreach, hown, hother, fun f hlink hreceives hacts =>
      portUp_commutes hlink htraining hreceives hacts⟩

end Sys2Proof.Machine
end

section
/-! Settles O59: the resets and the loss of supply (R176, R178, R182 to R188). -/

namespace Sys2Proof.Machine

variable {s t : State}

/-! ## The pattern reset and the power-on reset (R178, R187) -/

theorem reset_channel (c : Fin 8) : State.reset.channels[c] = Channel.atReset := by simp [State.reset]

/-- The channels that the lockout records give (R102, R187). -/
theorem takeReset_channel_eq (s : State) (kind : ResetKind) (c : Fin 8) :
    (s.takeReset kind).channels[c] = { State.reset.channels[c] with
      state := if s.nv.lockout[c] then .lockout else .disarmed } := by
  rw [takeReset_channel, reset_channel, channelAfterReset]
  split <;> rfl

theorem resetWaits_iff (s : State) :
    s.resetWaits = false ↔
      s.management.pendingReset = some false ∧ s.management.flight = none ∧ ∀ c : Fin 8, s.channels[c].state ≠ .firing := by
  unfold State.resetWaits State.anyFiring
  simp [ascending, and_assoc]

theorem patternReset_starts (hrunning : s.phase = .running) (hready : s.resetWaits = false) :
    exec .patternResetStart s = .next (s.takeReset .pattern) := by
  refine (perform_running (f := fun s => if s.resetWaits then s else s.takeReset .pattern) hrunning).trans ?_
  rw [if_neg (by rw [hready]; decide), settle_takeReset]

theorem patternReset_waits (hrunning : s.phase = .running) (hnot : ¬s.resetWaits = false) :
    ∃ t, exec .patternResetStart s = .next t ∧ s.sameButPorts t ∧ s.portsIdle t := by
  obtain ⟨t, hnext, hidle, hsame⟩ := perform_passed (f := fun s => if s.resetWaits then s else s.takeReset .pattern) hrunning
    (if_pos (Bool.not_eq_false _ ▸ hnot))
  exact ⟨t, hnext, hsame, hidle⟩

/-! ## The loss of supply (R176, R184 to R186) -/

/-- What the loss of supply does to an operation in flight. -/
theorem endOperation_flight (s : State) :
    let t := s.endOperation
    let cut := t.nv = s.nv ∧ (s.storeOk → t.nv.imageValid = false)
    let completed (v : Tables) := t.nv = { s.nv with image := v, markValid := true, checkAgrees := true }
    (s.management.flight = none → t.nv = s.nv) ∧
    (∀ v, s.management.flight = some (.freeze v) → t.nv = { s.nv with tripArea := none }) ∧
    (∀ v, s.management.flight = some (.store v .accepted) → cut) ∧
    (∀ v, s.management.flight = some (.store v .writing) → cut ∨ completed v) ∧
    ∀ v, s.management.flight = some (.store v .final) → completed v := by
  dsimp only
  have hnv := endOperation_nv s
  have hcut : ∀ v stage, s.management.flight = some (.store v stage) → s.endOperation.nv = s.nv →
      s.endOperation.nv = s.nv ∧ (s.storeOk → s.endOperation.nv.imageValid = false) := fun v stage hflight hsame =>
    ⟨hsame, fun hok => by
      rw [hsame, Nonvolatile.imageValid, hok v stage hflight]
      rfl⟩
  refine ⟨fun hflight => ?_, fun v hflight => ?_, fun v hflight => ?_, fun v hflight => ?_, fun v hflight => ?_⟩
  · simp only [hflight] at hnv
    exact hnv
  · simp only [hflight] at hnv
    exact hnv
  · refine hcut v _ hflight ?_
    simp only [hflight] at hnv
    exact hnv
  · simp only [hflight] at hnv
    by_cases hbegun : s.finalWriteBegun .writing = true
    · rw [if_pos hbegun] at hnv
      exact .inr hnv
    · rw [if_neg hbegun] at hnv
      exact .inl (hcut v _ hflight hnv)
  · simp only [hflight] at hnv
    exact hnv

/-- The loss of supply keeps the lockout records and the frozen flag. -/
theorem endOperation_keeps (s : State) :
    s.endOperation.nv.lockout = s.nv.lockout ∧ s.endOperation.nv.frozen = s.nv.frozen := by
  rw [endOperation_nv]
  split
  · split <;> exact ⟨rfl, rfl⟩
  · exact ⟨rfl, rfl⟩
  · exact ⟨rfl, rfl⟩

theorem endOperation_tripOutput (s : State) (c : Fin 8) : s.endOperation.tripOutput c = false := by
  rw [Bool.eq_false_iff, Ne, tripOutput_iff]
  rintro ⟨hrunning, -⟩
  cases hrunning

theorem operationEnds_next (h : s.phase ≠ .off) : exec .operationEnds s = .next s.endOperation :=
  congrArg Host.Outcome.next (if_neg h)

theorem takeSupply_ends {v : Nat} (h : v < 160) : s.takeSupply v = s.endOperation := if_pos h

/-! ## The tables that a reset loads (R182, R183, R187) -/

theorem loaded_spec (nv : Nonvolatile) :
    let chosen := if nv.markValid = true ∧ nv.checkAgrees = true then nv.image else Tables.default
    (nv.frozen = false → nv.loaded = chosen) ∧
    ∀ a, nv.frozen = true → nv.tripArea = some a →
      nv.loaded = { chosen with trip := a.trip, point := nv.loaded.point } ∧
      ∀ p : Fin 256, nv.loaded.point[p] = { chosen.point[p] with votes := a.votes[p] } := by
  have hvalid : nv.imageValid = true ↔ nv.markValid = true ∧ nv.checkAgrees = true := Bool.and_eq_true_iff
  have hchosen : (if nv.imageValid then nv.image else Tables.default) =
      if nv.markValid = true ∧ nv.checkAgrees = true then nv.image else Tables.default := if_congr hvalid rfl rfl
  dsimp only
  rw [← hchosen]
  generalize hx : (if nv.imageValid then nv.image else Tables.default) = x
  refine ⟨fun hthawed => ?_, fun a hfrozen harea => ?_⟩
  · unfold Nonvolatile.loaded
    rw [hthawed, hx]
  · have hloaded : nv.loaded =
        { x with trip := a.trip, point := Vector.ofFn fun p => { x.point[p] with votes := a.votes[p] } } := by
      unfold Nonvolatile.loaded
      rw [hfrozen, harea, hx]
    refine ⟨?_, fun p => ?_⟩
    · rw [hloaded]
    · rw [hloaded]
      simp

/-- Settles O59. -/
theorem resetsAndLossOfSupply : Obligations.ResetsAndLossOfSupply := by
  unfold Obligations.ResetsAndLossOfSupply
  refine ⟨fun s => ⟨fun hrunning => ⟨fun hready => ?_, fun hnot => ?_⟩, fun hoff a b c rate => ?_, fun hon => ?_⟩,
    loaded_spec, fun s v hv => ⟨fun i hi hrunning => ?_, fun kind x hphase => ?_⟩⟩
  · exact ⟨_, patternReset_starts hrunning ((resetWaits_iff s).mpr hready), rfl, takeReset_channel_eq s .pattern⟩
  · exact patternReset_waits hrunning ((resetWaits_iff s).not.mpr hnot)
  · refine ⟨_, congrArg Host.Outcome.next (if_pos hoff), rfl, ?_⟩
    exact takeReset_channel_eq { s with straps := { addrA := a, addrB := b, addrC := c, rate } } .powerOn
  · obtain ⟨hlockout, hfrozen⟩ := endOperation_keeps s
    exact ⟨_, operationEnds_next hon, rfl, hlockout, hfrozen, rfl, endOperation_flight s, endOperation_tripOutput s⟩
  · have hends : ∀ f : State → State, f s = s.endOperation → perform s f = .next s.endOperation := fun f hf => by
      rw [perform_running hrunning, hf, settle_endOperation]
    refine ⟨s.endOperation, ?_, operationEnds_next (by rw [hrunning]; decide)⟩
    rcases hi with rfl | ⟨rfl, hsupplied⟩
    · exact hends (fun s => s.takeSupply v) (takeSupply_ends hv)
    · refine hends (fun s => if !s.health.supplyLow && v < Config.supplyLowBelow then s.takeSupply v else s) ?_
      have hlow : v < Config.supplyLowBelow := by
        show v < 190
        omega
      rw [hsupplied, decide_eq_true hlow, if_pos (by rfl), takeSupply_ends hv]
  · refine ⟨s.endOperation, ?_, operationEnds_next (by rw [hphase]; simp)⟩
    show execEndOfReset x v s = _
    unfold execEndOfReset
    simp only [hphase]
    rw [if_pos (show v < Config.operationEndsBelow from hv)]

end Sys2Proof.Machine
end

section
/-! Settles O60: the end of a reset (R23, R38, R61, R140, R187). -/

namespace Sys2Proof.Machine

variable {s t u : State}

/-! ## The part as it begins to run -/

theorem begun_eq (s : State) (x : Int) (v : Nat) :
    s.begun x v = { s with
      phase := .running
      health := { s.health with celsius := x, tenths := v, hot := decide (85 < x), supplyLow := decide (v < 190) }
      mode := { s.mode with
        unitTimer := if s.tables.panel.modeSource = .snoop then .running (s.tables.panel.unitTimeoutS * 1000)
          else s.mode.unitTimer } } := by
  unfold State.begun
  dsimp only
  split
  next hsnoop =>
    rw [if_pos hsnoop]
    rfl
  next hset =>
    rw [if_neg (by rw [hset]; decide)]
    rfl

/-! ## The votes -/

/-- A part in which only voters and their counts have moved since `b`. -/
structure State.OnlyVoters (b s : State) : Prop where
  rest : s = { b with channels := s.channels }
  channel : ∀ c : Fin 8, s.channels[c].state = b.channels[c].state ∧ s.channels[c].permit = b.channels[c].permit

theorem setVoters_onlyVoters {b : State} (hb : Waking b) (c : Fin 8) (l : List Voter) (hs : b.OnlyVoters s) :
    b.OnlyVoters (s.setVoters c l) := by
  obtain ⟨hpermit, hstate⟩ := hb.calm c
  obtain ⟨hsame, hsamePermit⟩ := hs.channel c
  rw [setVoters_of_calm (hsamePermit.trans hpermit) (by rw [hsame]; exact hstate)]
  refine ⟨congrArg (fun x : State => { x with
    channels := upd s.channels c fun v => { v with voters := l, count := voteCount s.tables.trip[c].stale l } }) hs.rest,
    fun d => ?_⟩
  have hget := upd_get s.channels c d fun v => { v with voters := l, count := voteCount s.tables.trip[c].stale l }
  unfold State.modChannel
  dsimp only
  rw [hget]
  split
  next heq => exact heq ▸ hs.channel c
  next => exact hs.channel d

/-- No channel has a permit while the part wakes, so the votes move no channel's state (R88). -/
theorem votesComeUp_onlyVoters (hs : Waking s) : s.OnlyVoters s.votesComeUp :=
  forEach_keeps (P := s.OnlyVoters) _ s (fun p _ u hu => by
    split
    · exact forEach_keeps (P := s.OnlyVoters) _ u (fun c _ v hv => by split <;> exact setVoters_onlyVoters hs c _ hv) hu
    · exact hu) ⟨rfl, fun _ => ⟨rfl, rfl⟩⟩

/-! ## The flags (R133, R140) -/

theorem raiseFlags_health (l : List (Fin 11)) (s : State) :
    (forEach l (fun n s => s.raiseFlag n) s).health =
      { s.health with flags := (forEach l (fun n s => s.raiseFlag n) s).health.flags } :=
  forEach_keeps (P := fun u => u.health = { s.health with flags := u.health.flags }) l s
    (fun n _ u hu => by
      rw [raiseFlag_health]
      exact congrArg (fun h : Health => { h with flags := u.health.flags ||| BitVec.twoPow 11 n.val }) hu) rfl

theorem raiseFlags_flagSet (l : List (Fin 11)) (m : Fin 11) :
    ∀ s : State, (forEach l (fun n s => s.raiseFlag n) s).flagSet m = true ↔ s.flagSet m = true ∨ m ∈ l := by
  induction l with
  | nil => simp
  | cons n l ih =>
    intro s
    have hown : (s.raiseFlag n).flagSet m = (s.flagSet m || decide (n = m)) := by
      unfold State.flagSet
      rw [raiseFlag_health, inSet_add]
    rw [forEach_cons, ih, hown]
    simp only [Bool.or_eq_true, decide_eq_true_eq, List.mem_cons, or_assoc]
    rw [eq_comm (a := n)]

/-- What a waking part's conditions are judged by (R133). -/
structure Rested (s : State) : Prop where
  coils : ∀ c : Fin 8, s.coils[c].state = .ok
  lamps : ∀ w : Fin 96, s.lamps[w].fault = none
  entries : ∀ e : Fin 24, s.entries[e].freshness ≠ .expired
  unitTimer : s.mode.unitTimer ≠ .expired
  field : s.field.status = .down

theorem rested_of_reset (hs : s.restOk) {kind : ResetKind} (hphase : s.phase = .inReset kind) : Rested s := by
  obtain ⟨heq, -, -⟩ := hs (by rw [hphase]; simp)
  refine ⟨fun c => ?_, fun w => ?_, fun e => ?_, ?_, ?_⟩ <;> (rw [heq]; simp [State.reset, Port.atReset])

theorem begun_rested (x : Int) (v : Nat) (hs : Rested s) : Rested (s.begun x v) := by
  rw [begun_eq]
  refine ⟨hs.coils, hs.lamps, hs.entries, ?_, hs.field⟩
  dsimp only
  split
  · simp
  · exact hs.unitTimer

theorem Rested.conditionPresent_iff (hs : Rested s) (n : Fin 11) :
    s.conditionPresent n = true ↔
      (n.val = 2 ∧ s.health.supplyLow = true) ∨ (n.val = 3 ∧ s.health.hot = true) ∨ n.val = 8 ∨
        (n.val = 9 ∧ s.nv.imageValid = false) := by
  have hlamp : s.lampFaultPresent = false := by
    rw [Bool.eq_false_iff, Ne, lampFaultPresent_iff]
    rintro ⟨w, -, hfault⟩
    exact hfault (hs.lamps w)
  have hcoil : s.coilFaultPresent = false := by
    rw [State.coilFaultPresent, List.any_eq_false]
    exact fun c _ => by simpa using hs.coils c
  have hstale : s.scannerStalePresent = false := by
    rw [State.scannerStalePresent, List.any_eq_false]
    exact fun e _ => by
      have := hs.entries e
      simp_all
  have hdown : (s.field.status = .down || s.station.status = .down : Bool) = true := by
    simp [hs.field]
  have hmode : decide (s.mode.unitTimer = .expired) = false := decide_eq_false hs.unitTimer
  unfold State.conditionPresent
  rw [hlamp, hcoil, hstale, hdown, hmode]
  fin_cases n <;>
    simp [flagSupplyLow, flagHot, flagLampFault, flagCoilFault, flagScannerStale, flagModeUnknown, flagLinkDown, flagConfigLost]

theorem mem_flagsAtEnd (hs : Rested s) (kind : ResetKind) (n : Fin 11) :
    n ∈ s.flagsAtEnd kind ↔
      (n.val = 0 ∧ kind = .powerOn) ∨ (n.val = 1 ∧ kind = .pattern) ∨ (n.val = 2 ∧ s.health.supplyLow = true) ∨
        (n.val = 3 ∧ s.health.hot = true) ∨ n.val = 8 ∨ (n.val = 9 ∧ s.nv.imageValid = false) := by
  have hcondition := hs.conditionPresent_iff n
  have hzero : n = flagPowerRestart ↔ n.val = 0 := Fin.ext_iff
  have hone : n = flagPatternReset ↔ n.val = 1 := Fin.ext_iff
  unfold State.flagsAtEnd
  rw [List.mem_filter]
  simp only [mem_ascending, true_and, hzero, hone]
  split
  next h => simp [h]
  next h =>
    split
    next h1 => simp [h1]
    next h1 => simp [hcondition, h, h1]

/-! ## The start-up activations (R61, R98) -/

/-- A window in ALERT, with a feeder of those that stand in it. -/
def State.alerted (s : State) (w : Fin 96) (f : Feeder) : Prop := s.windows[w].state = .alert ∧ f ∈ s.windows[w].feeders

theorem activate_alerted {w v : Fin 96} {f g : Feeder} (hs : s.alerted w f) : (s.activate v g).alerted w f := by
  obtain ⟨halert, hmem⟩ := hs
  unfold State.alerted
  rw [activate_windows, upd_get]
  split
  next heq => exact ⟨rfl, mem_joinFeeder_iff.mpr (.inr (heq ▸ hmem))⟩
  next => exact ⟨halert, hmem⟩

theorem tripComesUp_alerted {w : Fin 96} {f : Feeder} (c : Fin 8) (hs : s.alerted w f) : (s.tripComesUp c).alerted w f := by
  unfold State.tripComesUp State.activateAt
  split
  · split
    · exact hs
    · exact activate_alerted hs
  · exact hs

theorem tripsComeUp_alerted {w : Fin 96} {f : Feeder} (hs : s.alerted w f) : s.tripsComeUp.alerted w f :=
  forEach_keeps (P := fun u => u.alerted w f) _ s (fun c _ _ hu => tripComesUp_alerted c hu) hs

/-- Each locked-out channel brings its window to ALERT (R61, R98). -/
theorem tripsComeUp_alerts {c : Fin 8} {w : Fin 96} (hlocked : s.channels[c].state = .lockout)
    (hwindow : s.tables.trip[c].window = some w) : s.tripsComeUp.alerted w (.channel c) := by
  refine forEach_each (f := fun c u => u.tripComesUp c) (P := fun d u => d = c → u.channels = s.channels ∧ u.tables = s.tables)
    (Q := fun d u => d = c → u.alerted w (.channel c)) (fun d u hu hd => ?_) (fun d e u _ hu he => ?_)
    (fun d e u _ hu he => tripComesUp_alerted d (hu he)) s (fun _ _ => ⟨rfl, rfl⟩) c rfl
  · obtain ⟨hchannels, htables⟩ := hu hd
    subst hd
    unfold State.tripComesUp
    rw [hchannels, htables, if_pos hlocked, hwindow]
    exact activate_window_self u w _
  · obtain ⟨hchannels, htables⟩ := hu he
    exact ⟨(tripComesUp_channels u d).trans hchannels, (congrArg State.tables (tripComesUp_view u d) :).trans htables⟩

theorem evaluateFeeder_alerted {w : Fin 96} {f : Feeder} (hoff : s.health.feeder = false) (hs : s.alerted w f) :
    s.evaluateFeeder.alerted w f := by
  unfold State.evaluateFeeder
  rw [hoff]
  dsimp only
  split
  · exact activate_alerted hs
  · rw [Bool.false_and, if_neg (by decide)]
    exact hs

theorem evaluateFeeder_alerts (hoff : s.health.feeder = false) (hunmasked : s.unmaskedFlag = true) :
    s.evaluateFeeder.alerted s.tables.panel.healthWindow .health := by
  unfold State.evaluateFeeder
  rw [hoff, hunmasked]
  exact activate_window_self _ _ _

theorem offHealth_of_windows (h : t.offWindows = s.offWindows) : t.offHealth = s.offHealth :=
  congrArg (fun x : State => { x with health := State.reset.health }) h

theorem health_tables_of_windows (h : t.offWindows = s.offWindows) : t.health = s.health ∧ t.tables = s.tables :=
  ⟨(congrArg State.health h :), (congrArg State.tables h :)⟩

/-- The start-up activations, in either order. -/
theorem startUp_spec (hu : u = s.tripsComeUp.evaluateFeeder ∨ u = s.evaluateFeeder.tripsComeUp) (hoff : s.health.feeder = false) :
    u.offHealth = s.offHealth ∧ u.health = { s.health with feeder := s.unmaskedFlag } ∧
      (∀ (c : Fin 8) (w : Fin 96), s.channels[c].state = .lockout → s.tables.trip[c].window = some w →
        u.alerted w (.channel c)) ∧
      (s.unmaskedFlag = true → u.alerted s.tables.panel.healthWindow .health) := by
  have hview : ∀ v : State, v.tripsComeUp.offHealth = v.offHealth := fun v => offHealth_of_windows (tripsComeUp_view v)
  have htables : ∀ v : State, v.tripsComeUp.tables = v.tables := fun v => (health_tables_of_windows (tripsComeUp_view v)).2
  have hhealth : ∀ v : State, v.tripsComeUp.health = v.health := fun v => (health_tables_of_windows (tripsComeUp_view v)).1
  have hunmasked : s.tripsComeUp.unmaskedFlag = s.unmaskedFlag := by
    unfold State.unmaskedFlag
    rw [htables, hhealth]
  rcases hu with hu | hu
  all_goals rw [hu]
  · have hstill : s.tripsComeUp.health.feeder = false := by rw [hhealth, hoff]
    refine ⟨(evaluateFeeder_view _).trans (hview s), ?_, fun c w hlocked hwindow => ?_, fun h => ?_⟩
    · rw [evaluateFeeder_health, hhealth, hunmasked]
    · exact evaluateFeeder_alerted hstill (tripsComeUp_alerts hlocked hwindow)
    · have halerts := evaluateFeeder_alerts hstill (hunmasked.trans h)
      rwa [htables] at halerts
  · have hchannels : s.evaluateFeeder.channels = s.channels := (congrArg State.channels (evaluateFeeder_view s) :)
    refine ⟨(hview _).trans (evaluateFeeder_view s), ?_, fun c w hlocked hwindow => ?_, fun h => ?_⟩
    · rw [hhealth, evaluateFeeder_health]
    · exact tripsComeUp_alerts (by rw [hchannels]; exact hlocked) (by rw [evaluateFeeder_tables]; exact hwindow)
    · exact tripsComeUp_alerted (evaluateFeeder_alerts hoff h)

/-! ## The end of a reset -/

theorem flagsComeUp_spec (s : State) (kind : ResetKind) :
    (s.flagsComeUp kind).health = { s.health with flags := (s.flagsComeUp kind).health.flags } ∧
      ∀ n, (s.flagsComeUp kind).flagSet n = true ↔ s.flagSet n = true ∨ n ∈ s.flagsAtEnd kind :=
  ⟨raiseFlags_health _ s, fun n => raiseFlags_flagSet _ n s⟩

/-- The part before its start-up activations, against the part as it began to run. -/
theorem flagged_spec {b : State} (hb : Waking b) (hclear : ∀ n, b.flagSet n = false) (kind : ResetKind) :
    let f := b.votesComeUp.flagsComeUp kind
    (f.offHealth = { b with channels := f.channels }.offHealth ∧ ∀ c : Fin 8, f.channels[c].state = b.channels[c].state) ∧
      f.health = { b.health with flags := f.health.flags } ∧ ∀ n, f.flagSet n = true ↔ n ∈ b.flagsAtEnd kind := by
  obtain ⟨hrest, hchannel⟩ := votesComeUp_onlyVoters hb
  obtain ⟨hhealth, hset⟩ := flagsComeUp_spec b.votesComeUp kind
  have hview := flagsComeUp_view b.votesComeUp kind
  generalize b.votesComeUp = v at *
  have hchannels : (v.flagsComeUp kind).channels = v.channels := (congrArg State.channels hview :)
  have hsame : v.health = b.health := (congrArg State.health hrest :)
  dsimp only
  rw [hchannels]
  refine ⟨⟨hview.trans (congrArg State.offHealth hrest), fun c => (hchannel c).1⟩, hhealth.trans ?_, fun n => ?_⟩
  · rw [hsame]
  · have hnone : v.flagSet n = false := by
      unfold State.flagSet
      rw [hsame]
      exact hclear n
    have hflags : v.flagsAtEnd kind = b.flagsAtEnd kind := by
      rw [hrest]
      rfl
    rw [hset, hnone, hflags]
    simp

/-- Where a part is as another was but for its channels, its draws, its health and what the windows move. -/
theorem kept_of_offHealth {b : State} {x : Vector Channel 8} {n : Nat}
    (h : u.offHealth = { b with channels := x, freeDraws := n }.offHealth) :
    (u.phase = b.phase ∧ u.clock = b.clock ∧ u.flash = b.flash ∧ u.tables = b.tables ∧ u.nv = b.nv) ∧
      (u.points = b.points ∧ u.field = b.field ∧ u.station = b.station) ∧
      u.management = b.management ∧ u.mode = b.mode ∧ u.channels = x :=
  ⟨⟨(congrArg State.phase h :), (congrArg State.clock h :), (congrArg State.flash h :), (congrArg State.tables h :),
    (congrArg State.nv h :)⟩, ⟨(congrArg State.points h :), (congrArg State.field h :), (congrArg State.station h :)⟩,
    (congrArg State.management h :), (congrArg State.mode h :), (congrArg State.channels h :)⟩

theorem endOfReset_finishes {kind : ResetKind} {x : Int} {v : Nat} (hphase : s.phase = .inReset kind) (hv : 160 ≤ v) :
    exec (.endOfReset x v) s = .next (s.finishReset kind x v) := by
  show execEndOfReset x v s = _
  unfold execEndOfReset
  simp only [hphase]
  rw [if_neg (show ¬v < Config.operationEndsBelow from Nat.not_lt.mpr hv)]

/-- What of a reset's end does not depend on the draw of a free value. -/
theorem finishReset_spec (s : State) (kind : ResetKind) (x : Int) (v : Nat) (hwaking : Waking s)
    (hclear : s.health.flags = 0) (hoff : s.health.feeder = false) :
    let b := s.begun x v
    let t := s.finishReset kind x v
    (t.offHealth = { b with channels := t.channels, freeDraws := t.freeDraws }.offHealth ∧
      ∀ c : Fin 8, t.channels[c].state = s.channels[c].state) ∧
      (t.health = { b.health with flags := t.health.flags, feeder := t.unmaskedFlag } ∧
        ∀ n, t.flagSet n = true ↔ n ∈ b.flagsAtEnd kind) ∧
      (∀ (c : Fin 8) (w : Fin 96), s.channels[c].state = .lockout → s.tables.trip[c].window = some w →
        t.alerted w (.channel c)) ∧
      (t.unmaskedFlag = true → t.alerted s.tables.panel.healthWindow .health) := by
  obtain ⟨u, hu, heq⟩ := finishReset_cases s kind x v
  have hbegun : (s.begun x v).channels = s.channels ∧ (s.begun x v).tables = s.tables ∧
      (s.begun x v).health.flags = 0 ∧ (s.begun x v).health.feeder = false := by
    rw [begun_eq]
    exact ⟨rfl, rfl, hclear, hoff⟩
  have hwake := begun_waking x v hwaking
  unfold State.flagged at hu
  generalize s.begun x v = b at *
  obtain ⟨hchannels, htables, hflags, hfeeder⟩ := hbegun
  obtain ⟨⟨hview, hstates⟩, hhealth, hset⟩ := flagged_spec hwake (fun n => by
    rw [State.flagSet, hflags]
    simp [inSet]) kind
  generalize b.votesComeUp.flagsComeUp kind = f at *
  obtain ⟨huview, huhealth, hutrips, huown⟩ := startUp_spec hu (by rw [hhealth]; exact hfeeder)
  obtain ⟨⟨-, -, -, hftables, -⟩, -, -, -, -⟩ := kept_of_offHealth hview
  have hsame : u.unmaskedFlag = f.unmaskedFlag := by
    obtain ⟨⟨-, -, -, hutables, -⟩, -, -, -, -⟩ := kept_of_offHealth (huview.trans hview)
    unfold State.unmaskedFlag
    rw [huhealth, hutables, hftables]
  obtain ⟨-, -, -, -, huchannels⟩ := kept_of_offHealth (huview.trans hview)
  dsimp only
  generalize (s.finishReset kind x v).freeDraws = draws at heq
  rw [heq, ← htables]
  refine ⟨⟨?_, fun c => ?_⟩, ⟨?_, fun n => ?_⟩, fun c w hlocked hwindow => ?_, fun h => ?_⟩
  · show { u.offHealth with freeDraws := draws } = _
    rw [huview, hview, ← huchannels]
    rfl
  · show u.channels[c].state = _
    rw [huchannels, hstates, hchannels]
  · show u.health = { b.health with flags := u.health.flags, feeder := u.unmaskedFlag }
    rw [hsame, huhealth, hhealth]
  · show u.flagSet n = true ↔ _
    rw [← hset, State.flagSet, huhealth]
    rfl
  · exact hutrips c w (by rw [hstates, hchannels]; exact hlocked) (by rw [hftables]; exact hwindow)
  · rw [← hftables]
    exact huown (hsame ▸ h)

/-- Settles O60. -/
theorem resetEnds : Obligations.ResetEnds := by
  unfold Obligations.ResetEnds
  intro s kind x v hrest hphase hv
  obtain ⟨heq, -, hreset⟩ := hrest (by rw [hphase]; simp)
  have hhealth : s.health = State.reset.health := (congrArg State.health heq :)
  have hclock : s.clock = 0 ∧ s.flash = 0 := ⟨(congrArg State.clock heq :), (congrArg State.flash heq :)⟩
  have hchannel : ∀ c : Fin 8, s.channels[c] = channelAfterReset s.nv.lockout[c] := fun c => by
    rw [(hreset (by rw [hphase]; simp)).2]
    simp
  have hlocked : ∀ c : Fin 8, s.channels[c].state = if s.nv.lockout[c] then .lockout else .disarmed := fun c => by
    rw [hchannel, channelAfterReset]
    split <;> rfl
  obtain ⟨⟨hview, hstates⟩, ⟨hown, hset⟩, htrips, hfeeder⟩ :=
    finishReset_spec s kind x v (waking_of_reset hrest hphase) (by rw [hhealth]; rfl) (by rw [hhealth]; rfl)
  have hflags := mem_flagsAtEnd (begun_rested x v (rested_of_reset hrest hphase)) kind
  refine ⟨_, endOfReset_finishes hphase hv, ?_⟩
  generalize s.finishReset kind x v = t at *
  rw [begun_eq] at hview hown hset hflags
  obtain ⟨⟨hrunning, hzero, hflash, htables, hnv⟩, ⟨hpoints, hfield, hstation⟩, hmanagement, hmode, -⟩ :=
    kept_of_offHealth hview
  rw [hrunning, hzero, hflash, htables, hnv, hpoints, hfield, hstation, hmanagement, hmode, hown]
  exact ⟨rfl, hclock.1, hclock.2, rfl, rfl, rfl, rfl, rfl, rfl, rfl, rfl, rfl, rfl,
    fun n => ((hset n).trans (hflags n)).trans (by simp), rfl, rfl, fun c => (hstates c).trans (hlocked c),
    fun c w hlock hwindow => htrips c w (by rw [hlocked, hlock]; rfl) hwindow, fun h => (hfeeder h).1⟩

end Sys2Proof.Machine
end

section
/-! Settles O18, O19 and O21: scan frames that are not acted on, a direct input's reading, and the end of a freshness timer
(R5, R6, R12, R13), with what a point's change keeps outside the part of the state that it may reach. -/

namespace Sys2Proof.Machine

variable {s t u : State}

/-! ## Outside what points reach -/

section Outside

variable (h : t.offPoints = s.offPoints)
include h

theorem phase_of_offPoints : t.phase = s.phase := (congrArg State.phase h :)

theorem clock_of_offPoints : t.clock = s.clock := (congrArg State.clock h :)

theorem tables_of_offPoints : t.tables = s.tables := (congrArg State.tables h :)

theorem inputs_of_offPoints : t.inputs = s.inputs := (congrArg State.inputs h :)

theorem entries_of_offPoints : t.entries = s.entries := (congrArg State.entries h :)

theorem scanners_of_offPoints : t.scanners = s.scanners := (congrArg State.scanners h :)

theorem health_of_offPoints : t.health = s.health := (congrArg State.health h :)

theorem port_of_offPoints (q : PortId) : t.port q = s.port q := by
  cases q
  · exact (congrArg State.field h :)
  · exact (congrArg State.station h :)

end Outside

theorem points_of_offHealth (h : t.offHealth = s.offHealth) : t.points = s.points := (congrArg State.points h :)

theorem entries_of_offHealth (h : t.offHealth = s.offHealth) : t.entries = s.entries := (congrArg State.entries h :)

section Read

variable (h : u.sameButPorts t)
include h

theorem points_of_ports : t.points = u.points := (congrArg State.points h :)

theorem inputs_of_ports : t.inputs = u.inputs := (congrArg State.inputs h :)

theorem entries_of_ports : t.entries = u.entries := (congrArg State.entries h :)

theorem scanners_of_ports : t.scanners = u.scanners := (congrArg State.scanners h :)

end Read

theorem sameButPoints_of (hports : u.sameButPorts t) (hview : u.offPoints = s.offPoints) : s.sameButPoints t := by
  have hreach : t = { u.offPoints with
      points := t.points, windows := t.windows, horn := t.horn, groups := t.groups, channels := t.channels
      coils := t.coils, nv := { u.offPoints.nv with lockout := t.nv.lockout }, reports := t.reports, lost := t.lost
      field := t.field, station := t.station, freeDraws := t.freeDraws } := by
    rw [hports]
    rfl
  rw [hview] at hreach
  exact hreach

theorem changePoint_offPoints (s : State) (p : Fin 256) (f : Point → Point) : (s.changePoint p f).offPoints = s.offPoints :=
  (offPoints_of (changePoint_view s p f)).trans rfl

/-- Points in a list, all moved by one function that moves a point once and for all. -/
theorem changePoints_points {f : Point → Point} (hf : ∀ v, f (f v) = f v) (p : Fin 256) (l : List (Fin 256)) :
    ∀ s : State, (forEach l (fun q s => s.changePoint q f) s).points[p] = if p ∈ l then f s.points[p] else s.points[p] := by
  induction l with
  | nil => exact fun s => rfl
  | cons q l ih =>
    intro s
    rw [forEach_cons, ih, changePoint_points, upd_get]
    by_cases hq : q = p
    · rw [if_pos hq, if_pos (List.mem_cons.mpr (.inl hq.symm)), hf, ite_self]
      rw [hq]
    · rw [if_neg hq]
      refine if_congr ?_ rfl rfl
      rw [List.mem_cons, or_iff_right (Ne.symm hq)]

/-! ## Frames that the tracking list does not act on (R5, R6) -/

/-- The tracking list does not act on a frame of scanner `n` with number `q`. -/
def State.passesScan (s : State) (n : Nat) (q : Byte) : Prop :=
  n = 31 ∨ s.tables.namesScanner n = false ∨ ∃ k : Fin 31, k.val = n ∧ s.scanners[k].last = some q

theorem trackedScanner_eq_some {n : Nat} {k : Fin 31} (h : s.trackedScanner n = some k) :
    s.tables.namesScanner n = true ∧ k.val = n := by
  unfold State.trackedScanner at h
  split at h
  next hnames => exact ⟨hnames, index?_some h⟩
  next => cases h

theorem trackedScanner_val {k : Fin 31} (h : s.tables.namesScanner k.val = true) : s.trackedScanner k.val = some k := by
  rw [State.trackedScanner, if_pos h, index?_val]

theorem sequenceRule_duplicate {last : Option Byte} {q : Byte} : sequenceRule last q = .duplicate ↔ last = some q := by
  unfold sequenceRule
  split
  · simp
  · split
    next heq => simp [heq]
    next hne =>
      have : ¬(some _ = some q) := fun h => hne (Option.some.inj h).symm
      split <;> simp [this]

/-- A scanner that the list tracks has repeated its number, if its frame is passed over. -/
theorem duplicate_of_passesScan {n : Nat} {q : Byte} {k : Fin 31} (h : s.passesScan n q) (hk : s.trackedScanner n = some k) :
    sequenceRule s.scanners[k].last q = .duplicate := by
  obtain ⟨hnames, hval⟩ := trackedScanner_eq_some hk
  rcases h with hlocal | hunnamed | ⟨j, hj, hlast⟩
  · exact absurd (hval.trans hlocal) (by omega)
  · rw [hunnamed] at hnames
    cases hnames
  · have hsame : j = k := Fin.ext (hj.trans hval.symm)
    exact sequenceRule_duplicate.mpr (hsame ▸ hlast)

theorem takeScanState_passes {b : ScanStateBody} (h : s.passesScan b.scanner b.seq) : s.takeScanState b = s := by
  unfold State.takeScanState
  split
  next => rfl
  next k hk => exact if_pos (duplicate_of_passesScan h hk)

theorem takeScanChange_passes {b : ScanChangeBody} (h : s.passesScan b.scanner b.seq) : s.takeScanChange b = s := by
  unfold State.takeScanChange
  split
  next => rfl
  next k hk => exact if_pos (duplicate_of_passesScan h hk)

theorem scanState_unread {f : LinkFrame} (h : parseScanState f.body = none) :
    exec (.scanState f) s = performFrame s f.port ⟨1, f.dest, f.src, f.body⟩ id := by
  show execScanState f s = _
  unfold execScanState
  rw [h]
  rfl

theorem scanState_body {f : LinkFrame} {b : ScanStateBody} (hrange : b.inRange) (hbody : f.body = b.bytes) :
    exec (.scanState f) s = performFrame s f.port ⟨1, f.dest, f.src, f.body⟩ fun s => s.takeScanState b := by
  show execScanState f s = _
  unfold execScanState
  rw [hbody, parseScanState_bytes hrange]

theorem scanChange_unread {f : LinkFrame} (h : parseScanChange f.body = none) :
    exec (.scanChange f) s = performFrame s f.port ⟨2, f.dest, f.src, f.body⟩ id := by
  show execScanChange f s = _
  unfold execScanChange
  rw [h]
  rfl

theorem scanChange_body {f : LinkFrame} {b : ScanChangeBody} (hrange : b.inRange) (hbody : f.body = b.bytes) :
    exec (.scanChange f) s = performFrame s f.port ⟨2, f.dest, f.src, f.body⟩ fun s => s.takeScanChange b := by
  show execScanChange f s = _
  unfold execScanChange
  rw [hbody, parseScanChange_bytes hrange]

theorem bytes32_word32 (b3 b2 b1 b0 : Byte) : bytes32 (word32 b3 b2 b1 b0) = [b3, b2, b1, b0] := by
  have h3 := b3.isLt
  have h2 := b2.isLt
  have h1 := b1.isLt
  have h0 := b0.isLt
  have hnat : (word32 b3 b2 b1 b0).toNat = ((b3.toNat * 256 + b2.toNat) * 256 + b1.toNat) * 256 + b0.toNat := by
    unfold word32
    rw [BitVec.toNat_ofNat]
    omega
  unfold bytes32
  rw [hnat]
  congr 1
  · exact BitVec.eq_of_toNat_eq (by rw [byteOf_toNat]; omega)
  · congr 1
    · exact BitVec.eq_of_toNat_eq (by rw [byteOf_toNat]; omega)
    · congr 1
      · exact BitVec.eq_of_toNat_eq (by rw [byteOf_toNat]; omega)
      · congr 1
        exact BitVec.eq_of_toNat_eq (by rw [byteOf_toNat]; omega)

theorem parseScanState_eq_some {body : List Byte} {b : ScanStateBody} (h : parseScanState body = some b) :
    b.inRange ∧ body = b.bytes := by
  unfold parseScanState at h
  split at h
  next scanner seq t3 t2 t1 t0 n states =>
    split at h
    next hrange =>
      cases h
      refine ⟨hrange, ?_⟩
      rw [ScanStateBody.bytes]
      dsimp only
      rw [byteOf_self, byteOf_self, bytes32_word32]
      rfl
    next => cases h
  next => cases h

/-- Records back to back, when no byte is left over. -/
theorem parseChanges_spelled : ∀ (n : Nat) (l : List Byte), l.length = 4 * n →
    (parseChanges l).length = n ∧ (∀ r ∈ parseChanges l, r.offset < 65536) ∧ (parseChanges l).flatMap ChangeRecord.bytes = l
  | 0, l, h => by
    rw [List.length_eq_zero_iff.mp h]
    exact ⟨rfl, fun r hr => (by cases hr), rfl⟩
  | n + 1, channel :: state :: hi :: lo :: rest, h => by
    obtain ⟨hlength, hoffsets, hbytes⟩ := parseChanges_spelled n rest (by simp at h; omega)
    refine ⟨congrArg Nat.succ hlength, fun r hr => ?_, ?_⟩
    · rcases List.mem_cons.mp hr with rfl | hr
      · have := hi.isLt
        have := lo.isLt
        show word16 hi lo < 65536
        unfold word16
        omega
      · exact hoffsets r hr
    · rw [parseChanges, List.flatMap_cons, hbytes, ChangeRecord.bytes]
      dsimp only
      rw [bytes16_word16]
      rfl
  | n + 1, [], h | n + 1, [_], h | n + 1, [_, _], h | n + 1, [_, _, _], h => by
    simp only [List.length_cons, List.length_nil] at h
    omega

theorem parseScanChange_eq_some {body : List Byte} {b : ScanChangeBody} (h : parseScanChange body = some b) :
    b.inRange ∧ body = b.bytes := by
  unfold parseScanChange at h
  split at h
  next scanner seq t3 t2 t1 t0 m records =>
    split at h
    next hrange =>
      obtain ⟨hscanner, hone, hsixteen, hlength⟩ := hrange
      obtain ⟨hcount, hoffsets, hbytes⟩ := parseChanges_spelled _ _ hlength
      cases h
      refine ⟨⟨hscanner, by rw [hcount]; exact hone, by rw [hcount]; exact hsixteen, hoffsets⟩, ?_⟩
      rw [ScanChangeBody.bytes]
      dsimp only
      rw [byteOf_self, hcount, byteOf_self, bytes32_word32, hbytes]
      rfl
    next => cases h
  next => cases h

theorem scanState_passes {f : LinkFrame} (hreceives : s.receives f.port = true)
    (hheld : ∀ b : ScanStateBody, b.inRange → f.body = b.bytes → s.passesScan b.scanner b.seq) :
    ∃ t, exec (.scanState f) s = .next t ∧ s.passes t f.port ⟨1, f.dest, f.src, f.body⟩ ∧ s.sameButPorts t := by
  cases hparse : parseScanState f.body with
  | none =>
    rw [scanState_unread hparse]
    exact performFrame_updates hreceives rfl fun _ => rfl
  | some b =>
    obtain ⟨hrange, hbody⟩ := parseScanState_eq_some hparse
    rw [scanState_body hrange hbody]
    exact performFrame_updates hreceives (takeScanState_passes (hheld b hrange hbody)) fun _ => rfl

theorem scanChange_passes {f : LinkFrame} (hreceives : s.receives f.port = true)
    (hheld : ∀ b : ScanChangeBody, b.inRange → f.body = b.bytes → s.passesScan b.scanner b.seq) :
    ∃ t, exec (.scanChange f) s = .next t ∧ s.passes t f.port ⟨2, f.dest, f.src, f.body⟩ ∧ s.sameButPorts t := by
  cases hparse : parseScanChange f.body with
  | none =>
    rw [scanChange_unread hparse]
    exact performFrame_updates hreceives rfl fun _ => rfl
  | some b =>
    obtain ⟨hrange, hbody⟩ := parseScanChange_eq_some hparse
    rw [scanChange_body hrange hbody]
    exact performFrame_updates hreceives (takeScanChange_passes (hheld b hrange hbody)) fun _ => rfl

/-- Settles O18. -/
theorem scanFramesPassedOver : Obligations.ScanFramesPassedOver := by
  unfold Obligations.ScanFramesPassedOver
  exact fun s f hreceives => ⟨scanState_passes hreceives, scanChange_passes hreceives⟩

/-! ## Direct inputs (R12) -/

/-- The part with a direct input's reading taken. -/
def State.withReading (s : State) (k : Fin 8) (x : Raw) : State :=
  { s with inputs := upd s.inputs k fun v => { v with reading := some x } }

theorem takeReading_of_unmapped {k : Fin 8} {x : Raw} (hnew : s.inputs[k].reading ≠ some x)
    (hmap : s.tables.mapChannel 31 k.val = none) : s.takeReading k x = s.withReading k x := by
  rw [State.takeReading, if_neg hnew]
  dsimp only
  rw [hmap]
  rfl

theorem takeReading_of_mapped {k : Fin 8} {x : Raw} {e : Fin 24} {p : Fin 256} (hnew : s.inputs[k].reading ≠ some x)
    (hmap : s.tables.mapChannel 31 k.val = some (e, p)) :
    s.takeReading k x = (s.withReading k x).changePoint p fun v =>
      takeRawChange s.tables.point[p] { v with raw := some x, changeStamp := some s.clock, quality := .good } := by
  rw [State.takeReading, if_neg hnew]
  dsimp only
  rw [hmap]
  rfl

theorem takeReading_offPoints {k : Fin 8} {x : Raw} (hnew : s.inputs[k].reading ≠ some x) :
    (s.takeReading k x).offPoints = (s.withReading k x).offPoints := by
  cases hmap : s.tables.mapChannel 31 k.val with
  | none => rw [takeReading_of_unmapped hnew hmap]
  | some found => rw [takeReading_of_mapped hnew hmap, changePoint_offPoints]

/-- Settles O19. -/
theorem debouncedReadingTaken : Obligations.DebouncedReadingTaken := by
  unfold Obligations.DebouncedReadingTaken
  intro s k x hrunning
  refine ⟨fun hsame => perform_passed (f := fun s => s.takeReading k x) hrunning (if_pos hsame), fun hnew => ?_⟩
  have hview := takeReading_offPoints hnew
  obtain ⟨t, hnext, hidle, ht⟩ := perform_updates (f := fun s => s.takeReading k x) hrunning rfl fun q =>
    (port_of_offPoints hview q).trans (by cases q <;> rfl)
  have hinputs : t.inputs = upd s.inputs k fun v => { v with reading := some x } :=
    (inputs_of_ports ht).trans (inputs_of_offPoints hview)
  have hpoints : t.points = (s.takeReading k x).points := points_of_ports ht
  refine ⟨t, hnext, hidle, ?_, hinputs, fun e p hmap => ?_, fun hmap => ?_⟩
  · rw [hinputs]
    exact sameButPoints_of ht hview
  · rw [hpoints, takeReading_of_mapped hnew hmap, changePoint_points]
    rfl
  · rw [hpoints, takeReading_of_unmapped hnew hmap]
    rfl

/-! ## The end of a freshness timer (R13) -/

theorem mem_range_iff (e : SourceEntry) (p : Fin 256) :
    p ∈ e.range ↔ e.firstPoint ≤ p.val ∧ p.val < e.firstPoint + e.count := by
  unfold SourceEntry.range
  simp only [List.mem_filterMap, List.mem_range]
  constructor
  · rintro ⟨k, hk, hp⟩
    have := index?_some hp
    omega
  · rintro ⟨hfirst, hlast⟩
    refine ⟨p.val - e.firstPoint, by omega, ?_⟩
    rw [Nat.add_sub_cancel' hfirst, index?_val]

theorem mem_rangeOf_iff (e : Option SourceEntry) (p : Fin 256) : p ∈ rangeOf e ↔ holdsPoint e p = true := by
  cases e with
  | none => simp [rangeOf, holdsPoint]
  | some e => simp [rangeOf, holdsPoint, mem_range_iff]

/-- The points of an expired entry as they are behind their loss of freshness. -/
def State.staled (s : State) (e : Fin 24) : State :=
  forEach (rangeOf s.tables.source[e]) (fun p s => s.changePoint p fun v => { v with quality := .stale })
    { s with entries := upd s.entries e fun v => { v with freshness := .expired } }

theorem freshnessExpires_eq (s : State) (e : Fin 24) : s.freshnessExpires e = (s.staled e).setFlag flagScannerStale := rfl

theorem changePoints_offPoints (f : Point → Point) (l : List (Fin 256)) (s : State) :
    (forEach l (fun p s => s.changePoint p f) s).offPoints = s.offPoints :=
  forEach_eq (m := State.offPoints) _ _ fun p _ s => changePoint_offPoints s p f

theorem staled_offPoints (s : State) (e : Fin 24) :
    (s.staled e).offPoints = { s with entries := upd s.entries e fun v => { v with freshness := .expired } }.offPoints :=
  changePoints_offPoints _ _ _

theorem staled_points (s : State) (e : Fin 24) (p : Fin 256) :
    (s.staled e).points[p] =
      if holdsPoint s.tables.source[e] p then { s.points[p] with quality := .stale } else s.points[p] := by
  refine (changePoints_points (f := fun v => { v with quality := .stale }) (fun v => rfl) p _ _).trans ?_
  exact if_congr (mem_rangeOf_iff _ p) rfl rfl

theorem sameButPoints_of_health {v : State} (hports : u.sameButPorts t) (hhealth : u.offHealth = v.offHealth)
    (hpoints : v.offPoints = s.offPoints) : { s with health := t.health }.sameButPoints t := by
  refine sameButPoints_of hports ?_
  rw [health_of_ports hports]
  have hcoarse : ∀ w : State, { w.offHealth with health := u.health }.offPoints = { w.offPoints with health := u.health } :=
    fun w => rfl
  calc u.offPoints = { u.offHealth with health := u.health }.offPoints := rfl
    _ = { v.offHealth with health := u.health }.offPoints := by rw [hhealth]
    _ = { v.offPoints with health := u.health } := hcoarse v
    _ = { s.offPoints with health := u.health } := by rw [hpoints]
    _ = _ := rfl

/-- Settles O21. -/
theorem freshnessTimerExpires : Obligations.FreshnessTimerExpires := by
  unfold Obligations.FreshnessTimerExpires
  intro s e hrunning
  refine ⟨fun hnot => perform_passed (f := fun s => if s.entries[e].freshness.isDue then s.freshnessExpires e else s) hrunning
    (if_neg fun hdue => hnot ((Timer.isDue_iff _).mp hdue)), fun hdue => ?_⟩
  have hflag : (s.freshnessExpires e).offHealth = (s.staled e).offHealth := setFlag_view _ _
  have hview := staled_offPoints s e
  obtain ⟨t, hnext, hidle, ht⟩ := perform_updates (f := fun s => if s.entries[e].freshness.isDue then s.freshnessExpires e else s)
    hrunning (if_pos ((Timer.isDue_iff _).mpr hdue)) fun q =>
    (port_of_offHealth hflag q).trans ((port_of_offPoints hview q).trans (by cases q <;> rfl))
  have hentries : t.entries = upd s.entries e fun v => { v with freshness := .expired } :=
    (entries_of_ports ht).trans ((entries_of_offHealth hflag).trans (entries_of_offPoints hview))
  refine ⟨t, hnext, hidle, ?_, hentries, fun p => ?_, ?_⟩
  · rw [hentries]
    exact sameButPoints_of_health ht hflag hview
  · rw [points_of_ports ht, points_of_offHealth hflag, staled_points]
  · rw [health_of_ports ht, freshnessExpires_eq, setFlag_health, health_of_offPoints hview]
    rfl

end Sys2Proof.Machine
end

section
/-! Settles O16: an accepted SCAN-STATE (R6, R7, R9, R10). -/

namespace Sys2Proof.Machine

variable {s t u : State}

/-! ## The map from channels to points (R1, R2) -/

theorem mapChannel_eq_some {T : Tables} {n c : Nat} {e : Fin 24} {p : Fin 256} (h : T.mapChannel n c = some (e, p)) :
    ∃ r, T.source[e] = some r ∧ r.scanner.val = n ∧ r.pointOf c = some p := by
  obtain ⟨i, -, hi⟩ := List.exists_of_findSome?_eq_some h
  split at hi
  next => cases hi
  next r hr =>
    split at hi
    next hscanner =>
      obtain ⟨q, hq, heq⟩ := Option.map_eq_some_iff.mp hi
      cases heq
      exact ⟨r, hr, hscanner, hq⟩
    next => cases hi

theorem pointOf_eq_some {r : SourceEntry} {c : Nat} {p : Fin 256} (h : r.pointOf c = some p) :
    r.firstChannel ≤ c ∧ c < r.firstChannel + r.count ∧ p.val = r.firstPoint + (c - r.firstChannel) := by
  unfold SourceEntry.pointOf at h
  split at h
  next hin =>
    rw [Bool.and_eq_true, decide_eq_true_iff, decide_eq_true_iff] at hin
    exact ⟨hin.1, hin.2, index?_some h⟩
  next => cases h

/-- No two channels of a scanner map to one point (R2). -/
theorem mapChannel_injective {T : Tables} (hT : T.sourceOk) {n c d : Nat} {e i : Fin 24} {p : Fin 256}
    (hc : T.mapChannel n c = some (e, p)) (hd : T.mapChannel n d = some (i, p)) : c = d := by
  obtain ⟨r, hr, -, hrp⟩ := mapChannel_eq_some hc
  obtain ⟨x, hx, -, hxp⟩ := mapChannel_eq_some hd
  obtain ⟨hrfirst, hrlast, hrval⟩ := pointOf_eq_some hrp
  obtain ⟨hxfirst, hxlast, hxval⟩ := pointOf_eq_some hxp
  by_cases hentry : e = i
  · subst hentry
    rw [hr] at hx
    cases hx
    omega
  · obtain ⟨hpoints, -⟩ := (hT e i r x hr hx).2 hentry
    omega

/-- A channel that maps to a point is one of the 64 (R1). -/
theorem mapChannel_lt {T : Tables} (hT : T.sourceOk) {n c : Nat} {e : Fin 24} {p : Fin 256}
    (h : T.mapChannel n c = some (e, p)) : c < 64 := by
  obtain ⟨r, hr, -, hp⟩ := mapChannel_eq_some h
  obtain ⟨-, hlast, -⟩ := pointOf_eq_some hp
  obtain ⟨-, hfits, -⟩ := (hT e e r r hr hr).1
  split at hfits <;> omega

/-! ## The sequence rule (R6) -/

theorem sequenceRule_first {last : Option Byte} {q : Byte} : sequenceRule last q = .first ↔ last = none := by
  unfold sequenceRule
  split
  · simp
  · split
    · simp
    · split <;> simp

theorem gapAt_of_none {k : Fin 31} {q : Byte} (h : s.scanners[k].last = none) : s.gapAt k q = false := by
  unfold State.gapAt
  rw [h]

theorem gapAt_of_some {k : Fin 31} {l q : Byte} (h : s.scanners[k].last = some l) : s.gapAt k q = decide (q ≠ l + 1) := by
  unfold State.gapAt
  rw [h]

theorem sequenceRule_gap {k : Fin 31} {q : Byte} (hnew : s.scanners[k].last ≠ some q) :
    sequenceRule s.scanners[k].last q = .gap ↔ s.gapAt k q = true := by
  cases hlast : s.scanners[k].last with
  | none =>
    rw [gapAt_of_none hlast]
    simp [sequenceRule]
  | some l =>
    have hne : q ≠ l := fun heq => hnew (by rw [hlast, heq])
    rw [gapAt_of_some hlast, decide_eq_true_iff]
    unfold sequenceRule
    dsimp only
    rw [if_neg hne]
    split
    next hnext => simp [hnext]
    next hnext => exact ⟨fun _ => hnext, fun _ => rfl⟩

theorem decide_gap {k : Fin 31} {q : Byte} (hnew : s.scanners[k].last ≠ some q) :
    decide (sequenceRule s.scanners[k].last q = .gap) = s.gapAt k q := by
  rw [Bool.eq_iff_iff, decide_eq_true_iff]
  exact sequenceRule_gap hnew

/-- What an accepted frame leaves as the scanner's status, before a gap is resolved (R6, R7). -/
def Scanner.statusAfter (v : Scanner) (gap : Bool) : ScannerStatus :=
  if v.last = none then .tracking else if gap then .gap else v.status

theorem accept_eq {k : Fin 31} {q : Byte} (hnew : s.scanners[k].last ≠ some q) :
    s.scanners[k].accept q (sequenceRule s.scanners[k].last q) =
      { last := some q, status := s.scanners[k].statusAfter (s.gapAt k q) } := by
  have hduplicate := sequenceRule_duplicate.not.mpr hnew
  have hfirst := sequenceRule_first (last := s.scanners[k].last) (q := q)
  have hgap := sequenceRule_gap hnew
  unfold Scanner.accept Scanner.statusAfter
  rw [← if_congr hfirst rfl rfl]
  cases hrule : sequenceRule s.scanners[k].last q with
  | first => rfl
  | duplicate => exact absurd hrule hduplicate
  | inSequence =>
    rw [hrule] at hgap
    rw [if_neg (by decide), if_neg fun h => by cases hgap.mpr h]
  | gap => rw [if_neg (by decide), if_pos (hgap.mp hrule)]

/-! ## The tracking list and the entries (R6, R7, R10) -/

/-- Everything but the tracking list and the Source Map entries' state. -/
def State.offTracks (s : State) : State :=
  { s with scanners := State.reset.scanners, entries := State.reset.entries }

theorem tables_of_offTracks (h : t.offTracks = s.offTracks) : t.tables = s.tables := (congrArg State.tables h :)

theorem points_of_offTracks (h : t.offTracks = s.offTracks) : t.points = s.points := (congrArg State.points h :)

theorem port_of_offTracks (h : t.offTracks = s.offTracks) (q : PortId) : t.port q = s.port q := by
  cases q
  · exact (congrArg State.field h :)
  · exact (congrArg State.station h :)

theorem offPoints_of_offTracks (h : t.offTracks = s.offTracks) :
    t.offPoints = { s with scanners := t.scanners, entries := t.entries }.offPoints := by
  have hreach : t = { t.offTracks with scanners := t.scanners, entries := t.entries } := rfl
  rw [h] at hreach
  exact congrArg State.offPoints hreach

theorem acceptScan_offTracks (s : State) (k : Fin 31) (q : Byte) (o : SequenceOutcome) :
    (s.acceptScan k q o).offTracks = s.offTracks := by
  unfold State.acceptScan State.markGap State.offTracks
  dsimp only
  split <;> rfl

theorem coverEntries_offTracks (s : State) (n count : Nat) : (s.coverEntries n count).offTracks = s.offTracks := by
  unfold State.coverEntries State.offTracks
  rfl

theorem coverEntries_scanners (s : State) (n count : Nat) : (s.coverEntries n count).scanners = s.scanners := by
  unfold State.coverEntries
  rfl

theorem resolveGap_offTracks (s : State) (k : Fin 31) : (s.resolveGap k).offTracks = s.offTracks := by
  unfold State.resolveGap State.offTracks
  split <;> rfl

theorem acceptScan_scanners (s : State) (k : Fin 31) (q : Byte) (o : SequenceOutcome) :
    (s.acceptScan k q o).scanners = upd s.scanners k fun v => v.accept q o := by
  unfold State.acceptScan
  dsimp only
  split <;> rfl

theorem acceptScan_entry (s : State) (k : Fin 31) (q : Byte) (o : SequenceOutcome) (e : Fin 24) :
    (s.acceptScan k q o).entries[e] =
      if decide (o = .gap) && s.tables.entryNames e k.val then { s.entries[e] with gapPending := true } else s.entries[e] := by
  unfold State.acceptScan State.markGap
  dsimp only
  split
  next hgap => simp [hgap]
  next hgap => simp [hgap]

theorem coverEntries_entry (s : State) (n count : Nat) (e : Fin 24) :
    (s.coverEntries n count).entries[e] =
      if s.tables.covers e n count then { freshness := .running (s.tables.freshnessMs e), gapPending := false }
      else s.entries[e] := by
  simp [State.coverEntries]

/-- A scanner in GAP with no entry left that is gap-pending (R3). -/
abbrev State.gapOver (s : State) (k : Fin 31) : Prop :=
  s.scanners[k].status = .gap ∧ ∀ e : Fin 24, s.tables.entryNames e k.val = true → s.entries[e].gapPending = false


theorem resolveGap_eq (s : State) (k : Fin 31) :
    s.resolveGap k =
      if s.gapOver k then { s with scanners := upd s.scanners k fun v => { v with status := .tracking } } else s := by
  have hnone : ((ascending 24).any fun e => s.tables.entryNames e k.val && s.entries[e].gapPending) = false ↔
      ∀ e : Fin 24, s.tables.entryNames e k.val = true → s.entries[e].gapPending = false := by
    rw [List.any_eq_false]
    refine ⟨fun h e hnames => ?_, fun h e _ => ?_⟩
    · have he := h e (mem_ascending e)
      rw [hnames, Bool.true_and] at he
      exact Bool.not_eq_true _ ▸ he
    · rw [Bool.and_eq_true]
      rintro ⟨hnames, hpending⟩
      rw [h e hnames] at hpending
      cases hpending
  unfold State.resolveGap
  refine if_congr ?_ rfl rfl
  rw [Bool.and_eq_true, decide_eq_true_iff, Bool.not_eq_true', hnone]

/-- The part with an accepted SCAN-STATE's number, gap and covering taken, and no point judged yet. -/
def State.tracked (s : State) (b : ScanStateBody) (k : Fin 31) : State :=
  ((s.acceptScan k b.seq (sequenceRule s.scanners[k].last b.seq)).coverEntries b.scanner b.count).resolveGap k

theorem tracked_offTracks (s : State) (b : ScanStateBody) (k : Fin 31) : (s.tracked b k).offTracks = s.offTracks :=
  (resolveGap_offTracks _ k).trans ((coverEntries_offTracks _ _ _).trans (acceptScan_offTracks s k b.seq _))

theorem tracked_entry (b : ScanStateBody) {k : Fin 31} (hnew : s.scanners[k].last ≠ some b.seq) (e : Fin 24) :
    (s.tracked b k).entries[e] =
      if s.tables.covers e b.scanner b.count then { freshness := .running (s.tables.freshnessMs e), gapPending := false }
      else if s.gapAt k b.seq && s.tables.entryNames e k.val then { s.entries[e] with gapPending := true }
      else s.entries[e] := by
  have htables : (s.acceptScan k b.seq (sequenceRule s.scanners[k].last b.seq)).tables = s.tables :=
    tables_of_offTracks (acceptScan_offTracks s k b.seq _)
  have hgap := decide_gap hnew
  have hresolved : ∀ u : State, (u.resolveGap k).entries = u.entries := fun u => by
    rw [resolveGap_eq]
    split <;> rfl
  unfold State.tracked
  rw [hresolved, coverEntries_entry, acceptScan_entry, htables, hgap]

theorem tracked_scanner (b : ScanStateBody) {k : Fin 31} (hnew : s.scanners[k].last ≠ some b.seq) :
    (∀ j, j ≠ k → (s.tracked b k).scanners[j] = s.scanners[j]) ∧
      (s.tracked b k).scanners[k].last = some b.seq ∧
      (let now := s.scanners[k].statusAfter (s.gapAt k b.seq)
       (s.tracked b k).scanners[k].status =
        if now = .gap ∧ ∀ e : Fin 24, s.tables.entryNames e k.val = true → (s.tracked b k).entries[e].gapPending = false
        then .tracking else now) := by
  have hscanners : ((s.acceptScan k b.seq (sequenceRule s.scanners[k].last b.seq)).coverEntries b.scanner b.count).scanners =
      upd s.scanners k fun v => v.accept b.seq (sequenceRule s.scanners[k].last b.seq) :=
    (coverEntries_scanners _ _ _).trans (acceptScan_scanners s k b.seq _)
  have hutables := tables_of_offTracks ((coverEntries_offTracks _ b.scanner b.count).trans
    (acceptScan_offTracks s k b.seq (sequenceRule s.scanners[k].last b.seq)))
  unfold State.tracked
  generalize (s.acceptScan k b.seq (sequenceRule s.scanners[k].last b.seq)).coverEntries b.scanner b.count = u at *
  have hown : u.scanners[k] = { last := some b.seq, status := s.scanners[k].statusAfter (s.gapAt k b.seq) } := by
    rw [hscanners, upd_self, accept_eq hnew]
  have hother : ∀ j, j ≠ k → u.scanners[j] = s.scanners[j] := fun j hj => by
    rw [hscanners]
    exact upd_ne _ _ (Ne.symm hj)
  have hentries : (u.resolveGap k).entries = u.entries := by
    rw [resolveGap_eq]
    split <;> rfl
  have hover : u.gapOver k ↔ s.scanners[k].statusAfter (s.gapAt k b.seq) = .gap ∧
      ∀ e : Fin 24, s.tables.entryNames e k.val = true → (u.resolveGap k).entries[e].gapPending = false := by
    unfold State.gapOver
    rw [hown, hentries, hutables]
  dsimp only
  rw [← if_congr hover rfl rfl, resolveGap_eq]
  split
  next =>
    exact ⟨fun j hj => (upd_ne _ _ (Ne.symm hj)).trans (hother j hj),
      (congrArg Scanner.last (upd_self u.scanners k _)).trans (congrArg Scanner.last hown),
      congrArg Scanner.status (upd_self u.scanners k _)⟩
  next => exact ⟨hother, congrArg Scanner.last hown, congrArg Scanner.status hown⟩

/-! ## One channel (R8, R9) -/

theorem scanChannel_offPoints (s : State) (b : ScanStateBody) (gap : Bool) (c : Nat) :
    (s.scanChannel b gap c).offPoints = s.offPoints := by
  unfold State.scanChannel
  split
  next => rfl
  next e p _ =>
    dsimp only
    split
    · rfl
    · exact changePoint_offPoints s p _

theorem scanChannel_own {b : ScanStateBody} {gap : Bool} {c : Nat} {e : Fin 24} {p : Fin 256}
    (h : s.tables.mapChannel b.scanner c = some (e, p)) :
    (s.scanChannel b gap c).points[p] =
      scanPoint s.tables.point[p] gap (s.tables.covers e b.scanner b.count) (b.state c) b.stamp s.points[p] := by
  unfold State.scanChannel
  rw [h]
  dsimp only
  split
  next hsame => exact hsame.symm
  next =>
    exact (congrArg (fun x : Vector Point 256 => x[p]) (changePoint_points s p _)).trans (upd_self _ _ _)

theorem scanChannel_other {b : ScanStateBody} {gap : Bool} {c : Nat} {p : Fin 256}
    (h : ∀ e, s.tables.mapChannel b.scanner c ≠ some (e, p)) : (s.scanChannel b gap c).points[p] = s.points[p] := by
  unfold State.scanChannel
  split
  next => rfl
  next e q hmap =>
    dsimp only
    split
    · rfl
    · exact (congrArg (fun x : Vector Point 256 => x[p]) (changePoint_points s q _)).trans
        (upd_ne _ _ fun heq => h e (heq ▸ hmap))

/-- One channel's share of an accepted SCAN-STATE, in one step (R7 to R10). -/
theorem scanPoint_eq (r : PointRecord) (gap covered : Bool) (carried : Option Raw) (x : Stamp) (v : Point) :
    scanPoint r gap covered carried x v =
      (let changed : Bool := carried ≠ none ∧ v.raw ≠ carried
       let w := { v with
        raw := if changed then carried else v.raw
        changeStamp := if changed then some x else v.changeStamp
        quality := if covered then .good else if gap then v.quality.gapped else v.quality }
       if changed || (covered && v.quality = .unseen) then takeRawChange r w else w) := by
  have hraw : (if gap then { v with quality := v.quality.gapped } else v).raw = v.raw := by split <;> rfl
  have hchanged : (carried.isSome && decide ((if gap then { v with quality := v.quality.gapped } else v).raw ≠ carried)) =
      decide (carried ≠ none ∧ v.raw ≠ carried) := by
    rw [hraw]
    cases carried <;> simp
  unfold scanPoint
  dsimp only
  rw [hchanged]
  cases gap <;> cases covered <;> cases decide (carried ≠ none ∧ v.raw ≠ carried) <;> rfl

/-! ## All channels -/

theorem scanChannels_offPoints (b : ScanStateBody) (gap : Bool) (l : List Nat) (s : State) :
    (forEach l (fun c s => s.scanChannel b gap c) s).offPoints = s.offPoints :=
  forEach_eq (m := State.offPoints) l s fun c _ s => scanChannel_offPoints s b gap c

theorem scanChannels_other {b : ScanStateBody} {p : Fin 256} (gap : Bool) (l : List Nat) (s : State)
    (h : ∀ c ∈ l, ∀ e, s.tables.mapChannel b.scanner c ≠ some (e, p)) :
    (forEach l (fun c s => s.scanChannel b gap c) s).points[p] = s.points[p] := by
  refine (forEach_keeps (P := fun u => u.tables = s.tables ∧ u.points[p] = s.points[p]) l s (fun c hc u hu => ?_)
    ⟨rfl, rfl⟩).2
  obtain ⟨htables, hpoint⟩ := hu
  refine ⟨(tables_of_offPoints (scanChannel_offPoints u b gap c)).trans htables, (scanChannel_other ?_).trans hpoint⟩
  rw [htables]
  exact h c hc

/-- Each channel moves its own point, once. -/
theorem scanChannels_own {b : ScanStateBody} (gap : Bool) {c : Nat} {e : Fin 24} {p : Fin 256} (hT : s.tables.sourceOk)
    (h : s.tables.mapChannel b.scanner c = some (e, p)) :
    (forEach (List.range 64) (fun c s => s.scanChannel b gap c) s).points[p] =
      scanPoint s.tables.point[p] gap (s.tables.covers e b.scanner b.count) (b.state c) b.stamp s.points[p] := by
  obtain ⟨before, after, hsplit⟩ := List.append_of_mem (List.mem_range.mpr (mapChannel_lt hT h))
  have hnodup := List.nodup_range (n := 64)
  rw [hsplit] at hnodup ⊢
  obtain ⟨-, hcons, hapart⟩ := List.nodup_append.mp hnodup
  have hbefore : ∀ d ∈ before, ∀ i, s.tables.mapChannel b.scanner d ≠ some (i, p) := fun d hd i hmap =>
    hapart d hd c List.mem_cons_self (mapChannel_injective hT hmap h)
  have hafter : ∀ d ∈ after, ∀ i, s.tables.mapChannel b.scanner d ≠ some (i, p) := fun d hd i hmap =>
    (List.nodup_cons.mp hcons).1 (mapChannel_injective hT h hmap ▸ hd)
  rw [forEach_append, forEach_cons]
  have hpoint := scanChannels_other gap before s hbefore
  have hview := scanChannels_offPoints b gap before s
  generalize forEach before (fun c s => s.scanChannel b gap c) s = u at *
  have htables : u.tables = s.tables := tables_of_offPoints hview
  have hchannel := tables_of_offPoints (scanChannel_offPoints u b gap c)
  rw [scanChannels_other gap after _ (by rw [hchannel, htables]; exact hafter),
    scanChannel_own (e := e) (by rw [htables]; exact h), htables, hpoint]

/-! ## The frame -/

theorem takeScanState_accepted {b : ScanStateBody} {k : Fin 31} (hscanner : b.scanner = k.val)
    (hnames : s.tables.namesScanner k.val = true) (hnew : s.scanners[k].last ≠ some b.seq) :
    s.takeScanState b = forEach (List.range 64) (fun c u => u.scanChannel b (s.gapAt k b.seq) c) (s.tracked b k) := by
  have hgap := decide_gap hnew
  unfold State.takeScanState State.tracked
  rw [hscanner, trackedScanner_val hnames]
  dsimp only
  rw [if_neg (sequenceRule_duplicate.not.mpr hnew), hgap]

theorem sameButScan_of {v : State} (hports : u.sameButPorts t) (hpoints : u.offPoints = v.offPoints)
    (htracks : v.offTracks = s.offTracks) : s.sameButScan t := by
  refine sameButPoints_of hports (hpoints.trans ((offPoints_of_offTracks htracks).trans ?_))
  rw [scanners_of_ports hports, entries_of_ports hports, scanners_of_offPoints hpoints, entries_of_offPoints hpoints]

/-- Settles O16. -/
theorem scanStateAccepted : Obligations.ScanStateAccepted := by
  unfold Obligations.ScanStateAccepted
  intro s f b k hreceives hbody hrange hscanner hsource hnames hnew
  have haccepted := takeScanState_accepted hscanner hnames hnew
  have htracks := tracked_offTracks s b k
  have hview := scanChannels_offPoints b (s.gapAt k b.seq) (List.range 64) (s.tracked b k)
  obtain ⟨t, hnext, hpasses, ht⟩ := performFrame_updates (f := ⟨1, f.dest, f.src, f.body⟩)
    (act := fun s => s.takeScanState b) hreceives haccepted fun q =>
      (port_of_offPoints hview q).trans (port_of_offTracks htracks q)
  obtain ⟨hothers, hlast, hstatus⟩ := tracked_scanner b hnew
  have hscanners : t.scanners = (s.tracked b k).scanners := (scanners_of_ports ht).trans (scanners_of_offPoints hview)
  have hentries : t.entries = (s.tracked b k).entries := (entries_of_ports ht).trans (entries_of_offPoints hview)
  have htables := tables_of_offTracks htracks
  have hpoints := points_of_offTracks htracks
  refine ⟨t, (scanState_body hrange hbody).trans hnext, hpasses, sameButScan_of ht hview htracks, fun e => ?_, ?_,
    fun j hj => ?_, ?_, fun c e p hmap => ?_, fun p hmap => ?_⟩
  · rw [hentries, tracked_entry b hnew, hscanner]
  · rw [hscanners, hlast]
  · rw [hscanners, hothers j hj]
  · rw [hscanners, hentries]
    exact hstatus
  · dsimp only
    rw [points_of_ports ht, scanChannels_own (e := e) _ (by rw [htables]; exact hsource) (by rw [htables, hscanner]; exact hmap),
      htables, hpoints, scanPoint_eq, hscanner]
  · rw [points_of_ports ht, scanChannels_other _ _ _ (by rw [htables, hscanner]; exact fun c _ e => hmap c e), hpoints]

end Sys2Proof.Machine
end

section
/-! Settles O17: an accepted SCAN-CHANGE (R6, R7, R11). -/

namespace Sys2Proof.Machine

variable {s t u : State}

/-! ## The points of a scanner, and a gap's doubt (R7) -/

theorem mem_pointsOf {n : Nat} {p : Fin 256} (hT : s.tables.sourceOk) :
    p ∈ s.pointsOf n ↔ ∃ c e, s.tables.mapChannel n c = some (e, p) := by
  unfold State.pointsOf
  simp only [List.mem_filterMap, List.mem_range, Option.map_eq_some_iff, Prod.exists, exists_eq_right]
  exact ⟨fun ⟨c, _, e, h⟩ => ⟨c, e, h⟩, fun ⟨c, e, h⟩ => ⟨c, mapChannel_lt hT h, e, h⟩⟩

theorem gapped_gapped (q : Quality) : q.gapped.gapped = q.gapped := by cases q <;> rfl

/-- A point under a gap (R7). -/
def Point.gapped (v : Point) : Point := { v with quality := v.quality.gapped }

theorem gapQualities_points (p : Fin 256) (l : List (Fin 256)) :
    ∀ s : State, (s.gapQualities l).points[p] = if p ∈ l then s.points[p].gapped else s.points[p] := by
  unfold State.gapQualities
  induction l with
  | nil => exact fun s => rfl
  | cons q l ih =>
    intro s
    have hget : (s.modPoint q fun v => { v with quality := v.quality.gapped }).points[p] =
        if q = p then s.points[q].gapped else s.points[p] := upd_get s.points q p Point.gapped
    rw [forEach_cons, ih, hget]
    by_cases hq : q = p
    · subst hq
      rw [if_pos rfl, if_pos List.mem_cons_self, Point.gapped, Point.gapped, gapped_gapped, ite_self]
    · rw [if_neg hq]
      refine if_congr ?_ rfl rfl
      rw [List.mem_cons, or_iff_right (Ne.symm hq)]

/-- The points of an accepted SCAN-CHANGE's scanner that its gap moves. -/
def State.doubted (s : State) (n : Nat) (gap : Bool) : List (Fin 256) :=
  if gap then (s.pointsOf n).filter fun p => s.points[p].quality.gapped ≠ s.points[p].quality else []

theorem doubted_mapped {n c : Nat} {e : Fin 24} {p : Fin 256} (hT : s.tables.sourceOk) (gap : Bool)
    (h : s.tables.mapChannel n c = some (e, p)) :
    (s.gapQualities (s.doubted n gap)).points[p] =
      { s.points[p] with quality := if gap then s.points[p].quality.gapped else s.points[p].quality } := by
  rw [gapQualities_points]
  unfold State.doubted
  cases gap with
  | false => rfl
  | true =>
    rw [if_pos rfl, if_pos rfl]
    split
    next => rfl
    next hout =>
      rw [List.mem_filter, not_and, decide_eq_true_iff, not_not] at hout
      rw [hout ((mem_pointsOf hT).mpr ⟨c, e, h⟩)]

theorem doubted_unmapped {n : Nat} {p : Fin 256} (hT : s.tables.sourceOk) (gap : Bool)
    (h : ∀ c e, s.tables.mapChannel n c ≠ some (e, p)) : (s.gapQualities (s.doubted n gap)).points[p] = s.points[p] := by
  rw [gapQualities_points, if_neg]
  intro hin
  unfold State.doubted at hin
  split at hin
  next =>
    obtain ⟨c, e, hmap⟩ := (mem_pointsOf hT).mp (List.mem_filter.mp hin).1
    exact h c e hmap
  next => cases hin

theorem doubted_of_offTracks (h : t.offTracks = s.offTracks) (n : Nat) (gap : Bool) : t.doubted n gap = s.doubted n gap := by
  unfold State.doubted State.pointsOf
  rw [tables_of_offTracks h, points_of_offTracks h]

theorem gapQualities_offPoints (s : State) (l : List (Fin 256)) : (s.gapQualities l).offPoints = s.offPoints :=
  forEach_eq (m := State.offPoints) l s fun _ _ _ => rfl

/-! ## The records (R11) -/

/-- One record of a SCAN-CHANGE at the point that its channel maps to (R11). -/
def Point.takeChange (record : PointRecord) (base : Stamp) (v : Point) (r : ChangeRecord) : Point :=
  match r.raw with
  | none => v
  | some x =>
    if v.raw = some x then v
    else takeRawChange record { v with raw := some x, changeStamp := some (r.stamp base) }

theorem takeChange_none {record : PointRecord} {base : Stamp} {v : Point} {r : ChangeRecord} (h : r.raw = none) :
    v.takeChange record base r = v := by
  unfold Point.takeChange
  rw [h]

theorem takeChange_some {record : PointRecord} {base : Stamp} {v : Point} {r : ChangeRecord} {x : Raw} (h : r.raw = some x) :
    v.takeChange record base r =
      if v.raw = some x then v
      else takeRawChange record { v with raw := some x, changeStamp := some (r.stamp base) } := by
  unfold Point.takeChange
  rw [h]

section Record

variable {b : ScanChangeBody} {x : State × List (Fin 256)} {r : ChangeRecord}

theorem applyChange_none (h : r.raw = none) : applyChange b x r = x := by
  unfold applyChange
  rw [h]

theorem applyChange_unmapped {raw : Raw} (hraw : r.raw = some raw)
    (h : x.1.tables.mapChannel b.scanner r.channel.toNat = none) : applyChange b x r = x := by
  unfold applyChange
  rw [hraw]
  dsimp only
  rw [h]

theorem applyChange_mapped {raw : Raw} {e : Fin 24} {p : Fin 256} (hraw : r.raw = some raw)
    (h : x.1.tables.mapChannel b.scanner r.channel.toNat = some (e, p)) :
    (applyChange b x r).1 =
      if x.1.points[p].raw = some raw then x.1
      else x.1.changePoint p fun v =>
        takeRawChange x.1.tables.point[p] { v with raw := some raw, changeStamp := some (r.stamp b.base) } := by
  unfold applyChange
  rw [hraw]
  dsimp only
  rw [h]
  dsimp only
  split <;> rfl

theorem applyChange_offPoints (b : ScanChangeBody) (x : State × List (Fin 256)) (r : ChangeRecord) :
    (applyChange b x r).1.offPoints = x.1.offPoints := by
  cases hraw : r.raw with
  | none => rw [applyChange_none hraw]
  | some raw =>
    cases hmap : x.1.tables.mapChannel b.scanner r.channel.toNat with
    | none => rw [applyChange_unmapped hraw hmap]
    | some found =>
      rw [applyChange_mapped hraw hmap]
      split
      · rfl
      · exact changePoint_offPoints _ _ _

theorem changePoint_point_self (s : State) (p : Fin 256) (f : Point → Point) : (s.changePoint p f).points[p] = f s.points[p] :=
  (congrArg (fun v : Vector Point 256 => v[p]) (changePoint_points s p f)).trans (upd_self _ _ _)

theorem changePoint_point_ne (s : State) {p q : Fin 256} (f : Point → Point) (h : p ≠ q) :
    (s.changePoint p f).points[q] = s.points[q] :=
  (congrArg (fun v : Vector Point 256 => v[q]) (changePoint_points s p f)).trans (upd_ne _ _ h)

theorem applyChange_own {e : Fin 24} {p : Fin 256}
    (h : x.1.tables.mapChannel b.scanner r.channel.toNat = some (e, p)) :
    (applyChange b x r).1.points[p] = x.1.points[p].takeChange x.1.tables.point[p] b.base r := by
  cases hraw : r.raw with
  | none => rw [applyChange_none hraw, takeChange_none hraw]
  | some raw =>
    have hmapped := applyChange_mapped hraw h
    rw [takeChange_some hraw]
    generalize applyChange b x r = y at hmapped
    rw [hmapped]
    split
    · rfl
    · exact changePoint_point_self _ p _

theorem applyChange_other {p : Fin 256}
    (h : ∀ e, x.1.tables.mapChannel b.scanner r.channel.toNat ≠ some (e, p)) :
    (applyChange b x r).1.points[p] = x.1.points[p] := by
  cases hraw : r.raw with
  | none => rw [applyChange_none hraw]
  | some raw =>
    cases hmap : x.1.tables.mapChannel b.scanner r.channel.toNat with
    | none => rw [applyChange_unmapped hraw hmap]
    | some found =>
      have hmapped := applyChange_mapped hraw hmap
      generalize applyChange b x r = y at hmapped
      rw [hmapped]
      split
      · rfl
      · exact changePoint_point_ne _ _ fun heq => h found.1 (by rw [hmap, ← heq])

end Record

theorem applyChanges_unmapped {b : ScanChangeBody} {p : Fin 256} {T : Tables}
    (h : ∀ c e, T.mapChannel b.scanner c ≠ some (e, p)) (l : List ChangeRecord) :
    ∀ x : State × List (Fin 256), x.1.tables = T → (l.foldl (applyChange b) x).1.points[p] = x.1.points[p] := by
  induction l with
  | nil => exact fun _ _ => rfl
  | cons r l ih =>
    intro x hx
    rw [List.foldl_cons, ih _ ((tables_of_offPoints (applyChange_offPoints b x r)).trans hx),
      applyChange_other (by rw [hx]; exact h _)]

/-- A mapped point takes its own channel's records, in frame order (R11). -/
theorem applyChanges_mapped {b : ScanChangeBody} {c : Nat} {e : Fin 24} {p : Fin 256} {T : Tables} (hT : T.sourceOk)
    (h : T.mapChannel b.scanner c = some (e, p)) (l : List ChangeRecord) :
    ∀ x : State × List (Fin 256), x.1.tables = T →
      (l.foldl (applyChange b) x).1.points[p] =
        (l.filter fun r => r.channel.toNat = c).foldl (Point.takeChange T.point[p] b.base) x.1.points[p] := by
  induction l with
  | nil => exact fun _ _ => rfl
  | cons r l ih =>
    intro x hx
    have hown : T.mapChannel b.scanner r.channel.toNat = some (e, p) → (applyChange b x r).1.points[p] =
        x.1.points[p].takeChange T.point[p] b.base r := fun hmap => by
      rw [← hx] at hmap ⊢
      exact applyChange_own hmap
    rw [List.foldl_cons, ih _ ((tables_of_offPoints (applyChange_offPoints b x r)).trans hx)]
    by_cases hc : r.channel.toNat = c
    · rw [List.filter_cons_of_pos (by simpa using hc), List.foldl_cons, hown (hc ▸ h)]
    · rw [List.filter_cons_of_neg (by simpa using hc), applyChange_other fun i hmap => ?_]
      rw [hx] at hmap
      exact hc (mapChannel_injective hT hmap h)

/-! ## The votes behind the records -/

theorem publishVotes_offPoints (s : State) (p : Fin 256) : (s.publishVotes p).offPoints = s.offPoints :=
  offPoints_of (offPublish_of_trips (publishVotes_view s p))

theorem applyChanges_offPoints (s : State) (b : ScanChangeBody) (doubted : List (Fin 256)) :
    (s.applyChanges b doubted).offPoints = s.offPoints :=
  applyChanges_keeps (R := fun s t => t.offPoints = s.offPoints) (fun _ => rfl) (fun h h' => h'.trans h)
    (fun s p _ _ => changePoint_offPoints s p _) (fun _ _ => rfl) publishVotes_offPoints s b doubted

theorem applyChanges_points (s : State) (b : ScanChangeBody) (doubted : List (Fin 256)) :
    (s.applyChanges b doubted).points = (b.records.foldl (applyChange b) (s.gapQualities doubted, [])).1.points :=
  forEach_eq (m := State.points) _ _ fun p _ s => publishVotes_points s p

/-! ## The frame -/

theorem takeScanChange_accepted {b : ScanChangeBody} {k : Fin 31} (hscanner : b.scanner = k.val)
    (hnames : s.tables.namesScanner k.val = true) (hnew : s.scanners[k].last ≠ some b.seq) :
    s.takeScanChange b = (s.acceptScan k b.seq (sequenceRule s.scanners[k].last b.seq)).applyChanges b
      (s.doubted b.scanner (s.gapAt k b.seq)) := by
  have hgap := decide_gap hnew
  unfold State.takeScanChange State.doubted
  rw [hscanner, trackedScanner_val hnames]
  dsimp only
  rw [if_neg (sequenceRule_duplicate.not.mpr hnew), ← hgap]
  simp only [decide_eq_true_eq]
  rfl

/-- Settles O17. -/
theorem scanChangeAccepted : Obligations.ScanChangeAccepted := by
  unfold Obligations.ScanChangeAccepted
  intro s f b k hreceives hbody hrange hscanner hsource hnames hnew
  have haccepted := takeScanChange_accepted hscanner hnames hnew
  have htracks := acceptScan_offTracks s k b.seq (sequenceRule s.scanners[k].last b.seq)
  have hentry := acceptScan_entry s k b.seq (sequenceRule s.scanners[k].last b.seq)
  have hscanners := acceptScan_scanners s k b.seq (sequenceRule s.scanners[k].last b.seq)
  rw [decide_gap hnew] at hentry
  rw [← doubted_of_offTracks htracks] at haccepted
  generalize s.acceptScan k b.seq (sequenceRule s.scanners[k].last b.seq) = v at *
  have hview := applyChanges_offPoints v b (v.doubted b.scanner (s.gapAt k b.seq))
  have hdone := applyChanges_points v b (v.doubted b.scanner (s.gapAt k b.seq))
  obtain ⟨t, hnext, hpasses, ht⟩ := performFrame_updates (f := ⟨2, f.dest, f.src, f.body⟩)
    (act := fun s => s.takeScanChange b) hreceives haccepted fun q =>
      (port_of_offPoints hview q).trans (port_of_offTracks htracks q)
  have htables := tables_of_offTracks htracks
  have hpoints := points_of_offTracks htracks
  have hgapTables := tables_of_offPoints (gapQualities_offPoints v (v.doubted b.scanner (s.gapAt k b.seq)))
  refine ⟨t, (scanChange_body hrange hbody).trans hnext, hpasses, sameButScan_of ht hview htracks, fun e => ?_, ?_,
    fun j hj => ?_, fun c e p hmap => ?_, fun p hmap => ?_⟩
  · rw [entries_of_ports ht, entries_of_offPoints hview, hentry]
  · rw [scanners_of_ports ht, scanners_of_offPoints hview, hscanners, upd_self, accept_eq hnew]
    rfl
  · rw [scanners_of_ports ht, scanners_of_offPoints hview, hscanners]
    exact upd_ne _ _ (Ne.symm hj)
  · rw [← hscanner, ← htables] at hmap
    rw [points_of_ports ht, hdone, applyChanges_mapped (e := e) (c := c) (T := v.tables) (by rw [htables]; exact hsource) hmap _ _
      hgapTables, doubted_mapped (by rw [htables]; exact hsource) _ hmap, hpoints, htables]
    rfl
  · rw [← hscanner, ← htables] at hmap
    rw [points_of_ports ht, hdone, applyChanges_unmapped (T := v.tables) hmap _ _ hgapTables,
      doubted_unmapped (by rw [htables]; exact hsource) _ hmap, hpoints]

end Sys2Proof.Machine
end

section
/-! Settles O47: SERVICE (R18, R19, R22, R175), with what a point's publication leaves at its windows and its channels. -/

namespace Sys2Proof.Machine

variable {s t u : State}

/-! ## What votes leave at windows and the horn (R22, R88, R98) -/

/-- What channels' activations keep, a point's votes keep. -/
theorem publishVotes_keeps {P : State → Prop}
    (hcongr : ∀ {s t : State}, t.windows = s.windows → t.horn = s.horn → P s → P t)
    (hactivate : ∀ {s : State} (w : Fin 96) (c : Fin 8), P s → P (s.activate w (.channel c))) (p : Fin 256) (hs : P s) :
    P (s.publishVotes p) := by
  have hat : ∀ (u : State) (w : Option (Fin 96)) (c : Fin 8), P u → P (u.activateAt w (.channel c)) := fun u w c hu => by
    cases w with
    | none => exact hu
    | some w => exact hactivate w c hu
  have hevaluate : ∀ (u : State) (c : Fin 8), P u → P (u.evaluate c) := fun u c hu => by
    by_cases hactive : u.channels[c].isActive
    · rw [evaluate_of_active hactive]
      exact hu
    by_cases hfires : u.evaluatedState c = .firing
    · rw [evaluate_of_fires hactive hfires]
      exact hat _ _ c (hcongr (emit_windows _ _) (emit_horn _ _) (hcongr (s := u) rfl rfl hu))
    · obtain ⟨hwindows, hhorn⟩ := evaluate_display hactive hfires
      exact hcongr hwindows hhorn hu
  have hvoters : ∀ (u : State) (c : Fin 8) (l : List Voter), P u → P (u.setVoters c l) := fun u c l hu => by
    unfold State.setVoters
    dsimp only
    split
    · exact hevaluate _ c (hcongr (s := u) rfl rfl hu)
    · exact hcongr (s := u) rfl rfl hu
  refine forEach_keeps (P := P) _ s (fun c _ u hu => ?_) hs
  split <;> exact hvoters u c _ hu

theorem publishVotes_alerted {w : Fin 96} {f : Feeder} (p : Fin 256) (hs : s.alerted w f) : (s.publishVotes p).alerted w f :=
  publishVotes_keeps (P := fun s => s.alerted w f) (fun hw _ h => by rw [State.alerted, hw]; exact h)
    (fun _ _ h => activate_alerted h) p hs

theorem publishVotes_absent {q : Fin 256} {w : Fin 96} (p : Fin 256) (hs : ¬s.feedsIn (.point q) w) :
    ¬(s.publishVotes p).feedsIn (.point q) w :=
  publishVotes_keeps (P := fun s => ¬s.feedsIn (.point q) w) (fun hw _ h => by rw [State.feedsIn, hw]; exact h)
    (fun v c h => by rw [feedsIn_activate]; simpa using h) p hs

/-! ## What votes leave at the channels (R22, R83) -/

/-- What a point makes of a voter table when it publishes there. -/
def State.ownVote (s : State) (p : Fin 256) (l : List Voter) : List Voter :=
  if s.tables.point[p].service = .inn then putVoter (s.voterOf p) l else removeVoter p l

theorem publishVote_voters (s : State) (p : Fin 256) (c d : Fin 8) :
    (s.publishVote p c).channels[d].voters = if c = d then s.ownVote p s.channels[c].voters else s.channels[d].voters := by
  unfold State.publishVote State.ownVote
  split <;> rw [setVoters_voters]

/-- What holds of every table that a point has published to holds at each channel on its list. -/
theorem publishVotes_voters {p : Fin 256} {c : Fin 8} {Q : List Voter → Prop} (hQ : ∀ l, Q (s.ownVote p l))
    (hc : c ∈ s.tables.point[p].votes) : Q (s.publishVotes p).channels[c].voters := by
  obtain ⟨before, after, hsplit⟩ := List.append_of_mem hc
  have hkept : ∀ (l : List (Fin 8)) (u : State), u.tables = s.tables ∧ u.points = s.points →
      let v := forEach l (fun c s => s.publishVote p c) u
      v.tables = s.tables ∧ v.points = s.points := fun l u hu =>
    forEach_keeps (P := fun u => u.tables = s.tables ∧ u.points = s.points) l u (fun d _ v hv =>
      ⟨(publishVote_tables v p d).trans hv.1, (publishVote_points v p d).trans hv.2⟩) hu
  have hown : ∀ u : State, u.tables = s.tables ∧ u.points = s.points → ∀ l, Q (u.ownVote p l) := fun u hu l => by
    have hsame : u.ownVote p l = s.ownVote p l := by
      unfold State.ownVote
      rw [hu.1, voterOf_congr hu.2]
    rw [hsame]
    exact hQ l
  rw [publishVotes_eq, hsplit, forEach_append, forEach_cons]
  have hu := hkept before s ⟨rfl, rfl⟩
  dsimp only at hu
  generalize forEach before (fun c s => s.publishVote p c) s = u at *
  have hpublished : Q (u.publishVote p c).channels[c].voters := by
    rw [publishVote_voters, if_pos rfl]
    exact hown u hu _
  have hstands : (u.publishVote p c).tables = s.tables ∧ (u.publishVote p c).points = s.points :=
    ⟨(publishVote_tables u p c).trans hu.1, (publishVote_points u p c).trans hu.2⟩
  refine (forEach_keeps (P := fun v => (v.tables = s.tables ∧ v.points = s.points) ∧ Q v.channels[c].voters) after _
    (fun d _ v hv => ?_) ⟨hstands, hpublished⟩).2
  obtain ⟨hsame, hv⟩ := hv
  refine ⟨⟨(publishVote_tables v p d).trans hsame.1, (publishVote_points v p d).trans hsame.2⟩, ?_⟩
  rw [publishVote_voters]
  split
  · exact hown v hsame _
  · exact hv

theorem self_mem_putVoter (v : Voter) : ∀ l, v ∈ putVoter v l
  | [] => List.mem_cons_self
  | u :: l => by
    unfold putVoter
    split
    · exact List.mem_cons_self
    · split
      · exact List.mem_cons_self
      · exact List.mem_cons_of_mem _ (self_mem_putVoter v l)

/-! ## OUT (R18) -/

theorem takenOut_offPoints (s : State) (p : Fin 256) (b : ReportBody) :
    ((s.emit b).takenOut p).offPoints = (s.setService p .out).offPoints := by
  unfold State.emit
  split <;> rfl

theorem serviceOut_offPoints {p : Fin 256} (h : s.tables.point[p].service = .inn) :
    (s.serviceOut p).offPoints = (s.setService p .out).offPoints := by
  rw [serviceOut_of_in h]
  exact (offPoints_of (publish_view _ _ _ _)).trans (takenOut_offPoints s p _)

theorem points_of_offPublish (h : t.offPublish = s.offPublish) : t.points = s.points := (congrArg State.points h :)

theorem serviceOut_points {p : Fin 256} (h : s.tables.point[p].service = .inn) :
    (s.serviceOut p).points =
      upd s.points p fun v => { v with condition := .normal, delay := .stopped, alarmStamp := none } := by
  rw [serviceOut_of_in h, points_of_offPublish (publish_view _ _ _ _)]
  have hpoints : ∀ u : State, (u.takenOut p).points =
      upd u.points p fun v => { v with condition := .normal, delay := .stopped, alarmStamp := none } := fun u => rfl
  rw [hpoints, emit_points]

theorem serviceOut_reports {p : Fin 256} (h : s.tables.point[p].service = .inn) :
    (s.emit (.service p .out)).reports <+: (s.serviceOut p).reports := by
  rw [serviceOut_of_in h]
  exact Strokes.reports_grow (s := (s.emit (.service p .out)).takenOut p)
    ((publishFeeder_strokes _ _ _ _).trans (publishVotes_strokes _ _))

theorem publishFeeder_tables (s : State) (p : Fin 256) (was : Bool) (stamp : Stamp) :
    (s.publishFeeder p was stamp).tables = s.tables ∧ (s.publishFeeder p was stamp).points = s.points :=
  have h := publishFeeder_view s p was stamp
  ⟨(congrArg State.tables h :), (congrArg State.points h :)⟩

theorem takenOut_record (s : State) (p : Fin 256) (b : ReportBody) :
    ((s.emit b).takenOut p).tables.point[p] = { s.tables.point[p] with service := .out } := by
  rw [State.takenOut, setService_record]
  exact congrArg (fun x : Tables => ({ x.point[p] with service := .out } : PointRecord)) (emit_tables s b)

theorem serviceOut_voters {p : Fin 256} {c : Fin 8} (h : s.tables.point[p].service = .inn)
    (hc : c ∈ s.tables.point[p].votes) : ∀ x ∈ (s.serviceOut p).channels[c].voters, x.point ≠ p := by
  have hrecord := takenOut_record s p (.service p .out)
  rw [serviceOut_of_in h]
  generalize (s.emit (.service p .out)).takenOut p = u at *
  refine publishVotes_voters (Q := fun l => ∀ x ∈ l, x.point ≠ p) (fun l x hx => ?_) ?_
  · unfold State.ownVote at hx
    rw [(publishFeeder_tables u p _ _).1, hrecord, if_neg (by simp)] at hx
    exact (mem_removeVoter.mp hx).1
  · rw [(publishFeeder_tables u p _ _).1, hrecord]
    exact hc

theorem serviceOut_feeders {p : Fin 256} {w : Fin 96} (h : s.tables.point[p].service = .inn)
    (hwindow : s.tables.point[p].window = some w) (hactive : s.feederActive p = true) :
    ¬(s.serviceOut p).feedsIn (.point p) w := by
  have hrecord := takenOut_record s p (.service p .out)
  have hwas : (s.emit (.service p .out)).feederActive p = s.feederActive p := by
    unfold State.emit
    split <;> rfl
  rw [serviceOut_of_in h, hwas, hactive]
  refine publishVotes_absent p ?_
  generalize (s.emit (.service p .out)).takenOut p = u at *
  have hnow : u.feederActive p = false := by
    unfold State.feederActive
    rw [hrecord]
    rfl
  unfold State.publishFeeder
  dsimp only
  rw [hnow, Bool.false_and, if_neg (by decide), if_pos (by rfl), feedsIn_deactivateAt, hrecord, hwindow]
  exact fun hin => hin.2 ⟨rfl, rfl⟩

/-! ## IN (R19) -/

theorem takenIn_offPoints (s : State) (p : Fin 256) (b : ReportBody) :
    ((s.emit b).takenIn p).offPoints = (s.setService p .inn).offPoints := by
  unfold State.emit
  split <;> rfl

theorem serviceIn_offPoints {p : Fin 256} (h : s.tables.point[p].service = .out) :
    (s.serviceIn p).offPoints = (s.setService p .inn).offPoints := by
  rw [serviceIn_of_out h]
  exact (offPoints_of (publish_view _ _ _ _)).trans (takenIn_offPoints s p _)

theorem pointTakenIn_eq (s : State) (p : Fin 256) :
    s.pointTakenIn p =
      let old := s.tables.point[p]
      let v := s.points[p]
      let rest := { v with condition := .normal, delay := .stopped, alarmStamp := none }
      if v.quality ≠ .unseen ∧ alarmRaw old v.raw = true then
        if old.onDelay = 0 then
          { rest with condition := .abnormal, changeStamp := some s.clock, alarmStamp := some s.clock }
        else { rest with condition := .onDelay, delay := .running old.onDelay, changeStamp := some s.clock }
      else rest := by
  unfold State.pointTakenIn
  generalize s.points[p] = v
  generalize s.tables.point[p] = r
  have hpolarity : alarmRaw { r with service := .inn } v.raw = alarmRaw r v.raw := rfl
  dsimp only
  rw [hpolarity]
  by_cases hseen : v.quality = .unseen
  · rw [hseen, if_neg (by simp), if_neg (by simp)]
  by_cases halarm : alarmRaw r v.raw = true
  · rw [if_pos (by simp [hseen, halarm]), if_pos ⟨hseen, halarm⟩]
    unfold takeRawChange
    dsimp only
    rw [if_pos (by simp [hseen]), hpolarity, halarm]
    rfl
  · rw [if_neg (by simp [halarm]), if_neg fun h => halarm h.2]

theorem pointTakenIn_quality (s : State) (p : Fin 256) : (s.pointTakenIn p).quality = s.points[p].quality := by
  rw [pointTakenIn_eq]
  dsimp only
  split
  · split <;> rfl
  · rfl

theorem serviceIn_points {p : Fin 256} (h : s.tables.point[p].service = .out) :
    (s.serviceIn p).points = upd s.points p fun _ => s.pointTakenIn p := by
  have hpoints : ∀ u : State, (u.takenIn p).points = upd u.points p fun _ => u.pointTakenIn p := fun u => rfl
  have hpoint : (s.emit (.service p .inn)).pointTakenIn p = s.pointTakenIn p := by
    unfold State.emit
    split <;> rfl
  rw [serviceIn_of_out h, points_of_offPublish (publish_view _ _ _ _), hpoints, emit_points, hpoint]

theorem serviceIn_reports {p : Fin 256} (h : s.tables.point[p].service = .out) :
    (s.emit (.service p .inn)).reports <+: (s.serviceIn p).reports := by
  rw [serviceIn_of_out h]
  exact Strokes.reports_grow (s := (s.emit (.service p .inn)).takenIn p)
    ((publishFeeder_strokes _ _ _ _).trans (publishVotes_strokes _ _))

theorem takenIn_record (s : State) (p : Fin 256) (b : ReportBody) :
    ((s.emit b).takenIn p).tables.point[p] = { s.tables.point[p] with service := .inn } := by
  have hrecord := setService_record (s.emit b) p .inn
  exact hrecord.trans (congrArg (fun x : Tables => ({ x.point[p] with service := .inn } : PointRecord)) (emit_tables s b))

theorem serviceIn_voters {p : Fin 256} {c : Fin 8} (h : s.tables.point[p].service = .out)
    (hc : c ∈ s.tables.point[p].votes) :
    { point := p, condition := (s.serviceIn p).points[p].condition, quality := s.points[p].quality } ∈
      (s.serviceIn p).channels[c].voters := by
  have hrecord := takenIn_record s p (.service p .inn)
  have hpoints := serviceIn_points h
  have hpoint : (s.serviceIn p).points[p] = s.pointTakenIn p :=
    (congrArg (fun x : Vector Point 256 => x[p]) hpoints).trans (upd_self _ _ _)
  have hquality : s.points[p].quality = (s.serviceIn p).points[p].quality := by
    rw [hpoint, pointTakenIn_quality]
  rw [hquality]
  rw [serviceIn_of_out h] at hpoints ⊢
  generalize ((s.emit (.service p .inn)).pointTakenIn p).alarmStamp.getD (s.emit (.service p .inn)).clock = stamp at *
  generalize (s.emit (.service p .inn)).takenIn p = u at *
  obtain ⟨htables, -⟩ := publishFeeder_tables u p false stamp
  generalize u.publishFeeder p false stamp = v at *
  have hsame : (v.publishVotes p).points = v.points := publishVotes_points v p
  rw [hsame]
  refine publishVotes_voters (Q := fun l => v.voterOf p ∈ l) (fun l => ?_) ?_
  · unfold State.ownVote
    rw [htables, hrecord, if_pos rfl]
    exact self_mem_putVoter _ l
  · rw [htables, hrecord]
    exact hc

/-! ## The request -/

theorem judgeService_bad {p : Fin 256} {b : Byte} (hflight : s.management.flight = none) (hbad : 2 ≤ b.toNat) :
    s.judgeService [byteOf p.val, b] = refuse s .badValue := by
  have hvalue : twoValued b Service.out .inn = none := by
    cases hv : twoValued b Service.out .inn with
    | none => rfl
    | some v => rcases twoValued_eq_some hv with ⟨rfl, -⟩ | ⟨rfl, -⟩ <;> exact absurd hbad (by decide)
  unfold State.judgeService
  dsimp only
  rw [unlessFlight_none hflight, index?_byteOf p (by decide), hvalue]

theorem judgeService_out (p : Fin 256) (hflight : s.management.flight = none) :
    s.judgeService [byteOf p.val, 0] = done (s.serviceOut p) := by
  unfold State.judgeService
  dsimp only
  rw [unlessFlight_none hflight, index?_byteOf p (by decide)]
  rfl

theorem judgeService_in (p : Fin 256) (hflight : s.management.flight = none) :
    s.judgeService [byteOf p.val, 1] = done (s.serviceIn p) := by
  unfold State.judgeService
  dsimp only
  rw [unlessFlight_none hflight, index?_byteOf p (by decide)]
  rfl

theorem asTaken_points (s : State) (r : Request) : (s.asTaken r).points = s.points := modPort_points _ _ _

theorem management_of_offPoints (h : t.offPoints = s.offPoints) : t.management = s.management :=
  (congrArg State.management h :)

theorem straps_of_offPoints (h : t.offPoints = s.offPoints) : t.straps = s.straps := (congrArg State.straps h :)

theorem channels_of_ports (h : u.sameButPorts t) : t.channels = u.channels := (congrArg State.channels h :)

theorem windows_of_ports (h : u.sameButPorts t) : t.windows = u.windows := (congrArg State.windows h :)

theorem emit_asTaken_reports (s : State) (r : Request) (b : ReportBody) :
    ((s.asTaken r).emit b).reports = (s.emit b).reports :=
  emit_reports_congr (s := s) (u := s.asTaken r) (modPort_reports _ _ _) (modPort_clock _ _ _)

/-- A SERVICE request answered DONE, behind what it does to its point. -/
theorem service_answers {r : Request} {p : Fin 256} {sv : Service} {u : State} (hadmits : s.admits r.port)
    (hjudge : (s.asTaken r).judgeService r.args = done u)
    (hview : u.offPoints = ((s.asTaken r).setService p sv).offPoints) :
    ∃ t, performRequest s r (asked 4 r.args.head?) (fun s => s.judgeService r.args) = .next t ∧ s.answers t r .done [] ∧
      { s with
        tables := { s.tables with point := upd s.tables.point p fun x => { x with service := sv } }
        management := s.management.done }.sameButPoints t ∧
      { u with management := s.management.done }.sameButPorts t := by
  have hmanagement : u.management = s.management := (management_of_offPoints hview).trans (asTaken_management s r)
  obtain ⟨t, hnext, ht, hanswers⟩ := performRequest_done (a := asked 4 r.args.head?) (judge := fun s => s.judgeService r.args)
    (data := []) hadmits hjudge (fun q => (port_of_offPoints hview q).trans (by cases q <;> rfl))
    ((straps_of_offPoints hview).trans (modPort_straps _ _ _))
  rw [hmanagement] at ht
  have hports := sameButPorts_of_eq (u := { u with management := s.management.done }) ht
  have hreach : { (s.asTaken r).setService p sv with management := s.management.done }.sameButPoints t :=
    sameButPoints_of hports (congrArg (fun x : State => { x with management := s.management.done }) hview)
  rw [asTaken_view] at hreach
  exact ⟨t, hnext, hanswers, hreach, hports⟩

/-- Settles O47. -/
theorem serviceTaken : Obligations.ServiceTaken := by
  unfold Obligations.ServiceTaken
  intro s r p b hadmits hflight hargs
  have hfree : (s.asTaken r).management.flight = none := by rw [asTaken_management, hflight]
  have htables := asTaken_tables s r
  have hpoints := asTaken_points s r
  have hdoneWith : ∀ judge : State → Judgement, judge (s.asTaken r) = done (s.asTaken r) → ∃ t,
      performRequest s r (asked 4 r.args.head?) judge = .next t ∧ s.doneWith t r s.management.done [] := fun judge hjudge => by
    refine performRequest_doneWith (m := s.management) hadmits (hjudge.trans ?_)
    rw [asTaken_view]
    rfl
  refine ⟨fun hbad => ?_, fun hout => ⟨fun h => ?_, fun h => ?_⟩, fun hin => ⟨fun h => ?_, fun h => ?_⟩⟩
  · obtain ⟨t, hnext, hrefusal⟩ := performRequest_refused (a := asked 4 r.args.head?) (judge := fun s => s.judgeService r.args)
      hadmits (by rw [hargs, judgeService_bad hfree hbad]) (by decide)
    rw [hargs] at hrefusal
    exact ⟨t, hnext, hrefusal⟩
  · rw [hout] at hargs
    refine hdoneWith (fun s => s.judgeService r.args) ?_
    rw [hargs, judgeService_out p hfree, serviceOut_of_out (by rw [htables, h])]
  · rw [hout] at hargs
    rw [← htables] at h
    obtain ⟨t, hnext, hanswers, hreach, hports⟩ := service_answers hadmits (p := p) (sv := .out)
      (by rw [hargs, judgeService_out p hfree]) (serviceOut_offPoints h)
    refine ⟨t, hnext, hanswers, hreach, ?_, ?_, fun c hc => ?_, fun w hwindow hactive => ?_⟩
    · rw [points_of_ports hports]
      exact (serviceOut_points h).trans (by rw [hpoints])
    · rw [reports_of_ports hports, ← emit_asTaken_reports s r]
      exact serviceOut_reports h
    · rw [channels_of_ports hports]
      exact serviceOut_voters h (by rw [htables]; exact hc)
    · rw [windows_of_ports hports]
      refine serviceOut_feeders h (by rw [htables, hwindow]) ?_
      rw [asTaken_view]
      exact hactive
  · rw [hin] at hargs
    refine hdoneWith (fun s => s.judgeService r.args) ?_
    rw [hargs, judgeService_in p hfree, serviceIn_of_in (by rw [htables, h])]
  · rw [hin] at hargs
    rw [← htables] at h
    obtain ⟨t, hnext, hanswers, hreach, hports⟩ := service_answers hadmits (p := p) (sv := .inn)
      (by rw [hargs, judgeService_in p hfree]) (serviceIn_offPoints h)
    have hpoint : (s.asTaken r).pointTakenIn p = s.pointTakenIn p := by
      rw [asTaken_view]
      rfl
    refine ⟨t, hnext, hanswers, hreach, ?_, ?_, fun c hc => ?_⟩
    · rw [points_of_ports hports]
      exact (serviceIn_points h).trans (by rw [hpoints, hpoint, pointTakenIn_eq])
    · rw [reports_of_ports hports, ← emit_asTaken_reports s r]
      exact serviceIn_reports h
    · rw [channels_of_ports hports, points_of_ports hports]
      have hvoter := serviceIn_voters h (c := c) (by rw [htables]; exact hc)
      rw [hpoints] at hvoter
      exact hvoter

end Sys2Proof.Machine
end

section
/-! Settles O20: the end of a delay timer (R16, R20, R21), with the records that strokes leave behind. -/

namespace Sys2Proof.Machine

variable {s t u v : State}

/-! ## Records behind strokes (R158) -/

theorem reported_congr {b : ReportBody} (h : v.queue = u.queue) (hr : s.reported u b) : s.reported v b := by
  obtain ⟨hreports, hlost⟩ := Prod.mk_inj.mp h
  unfold State.reported
  rw [hreports, hlost]
  exact hr

/-- A record that has been made stays made through whatever follows. -/
theorem Strokes.reported {b : ReportBody} (h : Strokes t v) (hr : s.reported t b) : s.reported v b := by
  induction h with
  | refl => exact hr
  | tail _ hstroke ih =>
    rcases hstroke.queue_eq with hsame | ⟨w, c, hbefore, hafter⟩
    · exact reported_congr hsame ih
    · exact reported_congr hafter (reported_emit c (reported_congr hbefore ih))

theorem emit_lost (s : State) (b : ReportBody) : (s.emit b).lost = s.lost ∨ (s.emit b).lost = min 255 (s.lost + 1) := by
  unfold State.emit
  split
  · exact .inl rfl
  · exact .inr rfl

theorem Strokes.lost_grows (h : Strokes s v) : s.lost ≤ v.lost ∨ v.lost = 255 := by
  induction h with
  | refl => exact .inl (Nat.le_refl _)
  | tail _ hstroke ih =>
    rcases hstroke.queue_eq with hsame | ⟨w, c, hbefore, hafter⟩
    · rw [(Prod.mk_inj.mp hsame).2]
      exact ih
    · rw [(Prod.mk_inj.mp hafter).2]
      have hlost : w.lost = _ := (Prod.mk_inj.mp hbefore).2
      rcases emit_lost w c with h | h <;> omega

/-- A record that is made behind other moves. -/
theorem reported_behind (h : Strokes s v) (hclock : v.clock = s.clock) (b : ReportBody) : s.reported (v.emit b) b := by
  rcases emit_reported v b with hmem | ⟨hfull, hlost⟩
  · rw [hclock] at hmem
    exact .inl (List.drop_subset_drop_left _ h.reports_grow.length_le hmem)
  · refine .inr ⟨hfull, ?_⟩
    unfold Config.byteCounterMax at *
    have hgrown := h.lost_grows
    rcases emit_lost v b with h | h <;> omega

/-! ## An arrival (R65) -/

theorem arrive_windows (s : State) (g : Fin 8) (p : Fin 256) (stamp : Stamp) :
    (s.arrive g p stamp).windows = s.windows ∧ (s.arrive g p stamp).horn = s.horn := by
  rw [arrive_eq]
  exact ⟨rfl, rfl⟩

theorem arriveAt_windows (s : State) (g : Option (Fin 8)) (p : Fin 256) (stamp : Stamp) :
    (s.arriveAt g p stamp).windows = s.windows ∧ (s.arriveAt g p stamp).horn = s.horn := by
  cases g with
  | none => exact ⟨rfl, rfl⟩
  | some g => exact arrive_windows s g p stamp

theorem emit_queue_congr {b : ReportBody} (hqueue : u.queue = s.queue) (hclock : u.clock = s.clock) :
    (u.emit b).queue = (s.emit b).queue := by
  obtain ⟨hreports, hlost⟩ := Prod.mk_inj.mp hqueue
  obtain ⟨hreports', hlost'⟩ := emits_congr [b] hreports hlost hclock
  exact Prod.ext hreports' hlost'

/-- The first arrival of an armed group makes its record (R65). -/
theorem arrive_settles {g : Fin 8} {p : Fin 256} {stamp : Stamp} (harmed : s.groups[g].state = .armed)
    (hsettling : (s.arrive g p stamp).groups[g].state = .settling) :
    (s.arrive g p stamp).queue = (s.emit (.group g .settling)).queue := by
  have hstays : s.arrive g p stamp ≠ s := fun hsame => by
    rw [hsame, harmed] at hsettling
    cases hsettling
  revert hstays
  unfold State.arrive
  dsimp only
  split
  · exact fun h => absurd rfl h
  · split
    · exact fun h => absurd rfl h
    · simp only [harmed]
      exact fun _ => emit_queue_congr (s := s) rfl rfl

/-! ## A point's feeder that rises (R20, R21) -/

theorem publishFeeder_rises {p : Fin 256} (stamp : Stamp) (h : s.feederActive p = true) :
    s.publishFeeder p false stamp =
      (s.activateAt s.tables.point[p].window (.point p)).arriveAt s.tables.point[p].group p stamp := by
  unfold State.publishFeeder
  dsimp only
  rw [h]
  rfl

theorem activate_reports (s : State) (w : Fin 96) (f : Feeder) :
    (s.activate w f).reports = (s.emit (.window w .alert)).reports := by
  unfold State.activate
  dsimp only
  split <;> exact emit_reports_congr rfl rfl

theorem publishVotes_sounding (p : Fin 256) (hs : s.horn = .sounding) : (s.publishVotes p).horn = .sounding :=
  publishVotes_keeps (P := fun s => s.horn = .sounding) (fun _ hhorn h => hhorn.trans h)
    (fun w _ h => by
      rw [activate_horn]
      split
      · rfl
      · exact h) p hs

theorem groups_of_offTrips (h : t.offTrips = s.offTrips) : t.groups = s.groups := (congrArg State.groups h :)

theorem groups_tables_of_offWindows (h : t.offWindows = s.offWindows) :
    t.groups = s.groups ∧ t.tables = s.tables ∧ t.clock = s.clock :=
  ⟨(congrArg State.groups h :), (congrArg State.tables h :), (congrArg State.clock h :)⟩

/-- What a point whose feeder rises leaves at its window (R20). -/
theorem rise_window {p : Fin 256} {w : Fin 96} (stamp : Stamp) (h : s.feederActive p = true)
    (hwindow : s.tables.point[p].window = some w) :
    let t := (s.publishFeeder p false stamp).publishVotes p
    t.alerted w (.point p) ∧ (s.tables.window[w].horn = true → t.horn = .sounding) ∧
      (s.emit (.window w .alert)).reports <+: t.reports := by
  have hrest := publishVotes_strokes (s.publishFeeder p false stamp) p
  rw [publishFeeder_rises stamp h, hwindow] at hrest ⊢
  have harrival := arriveAt_windows (s.activate w (.point p)) s.tables.point[p].group p stamp
  refine ⟨publishVotes_alerted p ?_, fun hhorn => publishVotes_sounding p ?_, ?_⟩
  · show State.alerted (State.arriveAt (s.activate w (.point p)) _ p stamp) w (.point p)
    rw [State.alerted, harrival.1]
    exact activate_window_self s w _
  · refine harrival.2.trans ?_
    rw [activate_horn, if_pos hhorn]
  · rw [← activate_reports s w (.point p)]
    exact Strokes.reports_grow ((arriveAt_strokes (s.activate w (.point p)) s.tables.point[p].group p stamp).trans hrest)

/-- What a point whose feeder rises leaves at its group (R21, R65). -/
theorem rise_group {p : Fin 256} {g : Fin 8} (stamp : Stamp) (h : s.feederActive p = true)
    (hgroup : s.tables.point[p].group = some g) :
    let t := (s.publishFeeder p false stamp).publishVotes p
    FoGroup.takes s.tables.group[g] p stamp s.groups[g] t.groups[g] ∧ (∀ h, h ≠ g → t.groups[h] = s.groups[h]) ∧
      (s.groups[g].state = .armed → t.groups[g].state = .settling → s.reported t (.group g .settling)) := by
  have hrest := publishVotes_strokes (s.publishFeeder p false stamp) p
  have hgroups := groups_of_offTrips (publishVotes_view (s.publishFeeder p false stamp) p)
  rw [publishFeeder_rises stamp h, hgroup] at hrest hgroups ⊢
  obtain ⟨hsame, htables, hclock⟩ := groups_tables_of_offWindows (activateAt_view s s.tables.point[p].window (.point p))
  have hbefore := activateAt_strokes s s.tables.point[p].window (.point p)
  dsimp only [State.arriveAt] at hrest hgroups ⊢
  generalize s.activateAt s.tables.point[p].window (.point p) = x at *
  obtain ⟨htakes, hothers⟩ := arrive_takes x g p stamp
  rw [hgroups, ← hsame, ← htables]
  refine ⟨htakes, hothers, fun harmed hsettling => hrest.reported ?_⟩
  exact reported_congr (arrive_settles harmed hsettling) (reported_behind hbefore hclock _)

/-- A feeder that does not rise leaves the groups alone. -/
theorem publish_groups {p : Fin 256} {was : Bool} (stamp : Stamp)
    (h : s.feederActive p = true → was = false → s.tables.point[p].group = none) :
    ((s.publishFeeder p was stamp).publishVotes p).groups = s.groups := by
  rw [groups_of_offTrips (publishVotes_view _ p)]
  unfold State.publishFeeder
  dsimp only
  split
  next hrises =>
    rw [Bool.and_eq_true, Bool.not_eq_true'] at hrises
    rw [h hrises.1 hrises.2]
    exact (groups_tables_of_offWindows (activateAt_view s _ _)).1
  next =>
    split
    · exact (groups_tables_of_offWindows (deactivateAt_view s _ _)).1
    · rfl

/-! ## The delay timer (R16) -/

theorem horn_of_ports (h : u.sameButPorts t) : t.horn = u.horn := (congrArg State.horn h :)

theorem groups_of_ports (h : u.sameButPorts t) : t.groups = u.groups := (congrArg State.groups h :)

theorem feederActive_iff (s : State) (p : Fin 256) :
    s.feederActive p = true ↔
      s.tables.point[p].service = .inn ∧ s.inhibited p = false ∧ alarmed s.points[p].condition = true := by
  unfold State.feederActive
  rw [Bool.and_eq_true, Bool.and_eq_true, decide_eq_true_iff, Bool.not_eq_true', and_assoc]

/-- A point whose delay has run out, before it publishes. -/
def State.delayOver (s : State) (p : Fin 256) : State := s.modPoint p takeDelayExpiry

theorem delayOver_point (s : State) (p : Fin 256) : (s.delayOver p).points[p] = takeDelayExpiry s.points[p] := upd_self _ _ _

theorem takeDelayExpiry_onDelay {x : Point} (h : x.condition = .onDelay) :
    takeDelayExpiry x = { x with condition := .abnormal, delay := .stopped, alarmStamp := x.changeStamp } := by
  unfold takeDelayExpiry
  rw [h]

theorem takeDelayExpiry_offDelay {x : Point} (h : x.condition = .offDelay) :
    takeDelayExpiry x = { x with condition := .normal, delay := .stopped, alarmStamp := none } := by
  unfold takeDelayExpiry
  rw [h]

theorem takeDelayExpiry_alarms {x : Point} (hbefore : alarmed x.condition = false)
    (hafter : alarmed (takeDelayExpiry x).condition = true) : x.condition = .onDelay := by
  cases hc : x.condition with
  | onDelay => rfl
  | offDelay =>
    rw [hc] at hbefore
    cases hbefore
  | normal =>
    unfold takeDelayExpiry at hafter
    simp [hc, alarmed] at hafter
  | abnormal =>
    rw [hc] at hbefore
    cases hbefore

/-- Settles O20. -/
theorem delayTimerExpires : Obligations.DelayTimerExpires := by
  unfold Obligations.DelayTimerExpires
  intro s p hrunning
  refine ⟨fun hnot => perform_passed (f := fun s => if s.points[p].delay.isDue then s.changePoint p takeDelayExpiry else s) hrunning
    (if_neg fun hdue => hnot ((Timer.isDue_iff _).mp hdue)), fun hdue => ?_⟩
  have hview := changePoint_offPoints s p takeDelayExpiry
  obtain ⟨t, hnext, hidle, ht⟩ := perform_updates
    (f := fun s => if s.points[p].delay.isDue then s.changePoint p takeDelayExpiry else s)
    hrunning (if_pos ((Timer.isDue_iff _).mpr hdue)) (port_of_offPoints hview)
  have hpoints : t.points = upd s.points p takeDelayExpiry := (points_of_ports ht).trans (changePoint_points s p _)
  have hpoint : t.points[p] = takeDelayExpiry s.points[p] :=
    (congrArg (fun x : Vector Point 256 => x[p]) hpoints).trans (upd_self _ _ _)
  have hchange : s.changePoint p takeDelayExpiry =
      ((s.delayOver p).publishFeeder p (s.feederActive p)
        ((s.delayOver p).points[p].alarmStamp.getD (s.delayOver p).clock)).publishVotes p := rfl
  have hrises : s.points[p].condition = .onDelay → s.tables.point[p].service = .inn → s.inhibited p = false →
      s.feederActive p = false ∧ (s.delayOver p).feederActive p = true := fun hdelay hin hfree => by
    refine ⟨?_, (feederActive_iff _ p).mpr ⟨hin, hfree, ?_⟩⟩
    · rw [Bool.eq_false_iff, Ne, feederActive_iff, hdelay]
      simp [alarmed]
    · rw [delayOver_point, takeDelayExpiry_onDelay hdelay]
      rfl
  refine ⟨t, hnext, hidle, sameButPoints_of ht hview, hpoints, fun hdelay => ?_, fun hdelay => ?_, fun w hactivates hwindow => ?_,
    fun g stamp hactivates hgroup hstamp => ?_, fun hquiet => ?_⟩
  · rw [hpoint, takeDelayExpiry_onDelay hdelay]
    exact ⟨rfl, rfl, rfl⟩
  · rw [hpoint, takeDelayExpiry_offDelay hdelay]
    exact ⟨rfl, rfl, rfl⟩
  · obtain ⟨hdelay, hin, hfree⟩ := hactivates
    obtain ⟨hwas, hnow⟩ := hrises hdelay hin hfree
    rw [windows_of_ports ht, horn_of_ports ht, reports_of_ports ht, hchange, hwas,
      ← emit_reports_congr (u := s.delayOver p) (s := s) rfl rfl]
    obtain ⟨halerted, hhorn, hreports⟩ :=
      rise_window ((s.delayOver p).points[p].alarmStamp.getD (s.delayOver p).clock) hnow hwindow
    exact ⟨halerted.1, halerted.2, hhorn, hreports⟩
  · obtain ⟨hdelay, hin, hfree⟩ := hactivates
    obtain ⟨hwas, hnow⟩ := hrises hdelay hin hfree
    have halarm : (s.delayOver p).points[p].alarmStamp.getD (s.delayOver p).clock = stamp := by
      rw [delayOver_point, takeDelayExpiry_onDelay hdelay]
      dsimp only
      rw [hstamp]
      rfl
    rw [hwas, halarm] at hchange
    obtain ⟨htakes, hothers, hreported⟩ := rise_group stamp hnow hgroup
    rw [← hchange] at htakes hothers hreported
    have hqueue : t.queue = (s.changePoint p takeDelayExpiry).queue := (congrArg State.queue ht).trans rfl
    rw [groups_of_ports ht]
    exact ⟨htakes, hothers, fun harmed hsettling => reported_congr hqueue (hreported harmed hsettling)⟩
  · rw [groups_of_ports ht, hchange]
    refine publish_groups _ fun hnow hwas => hquiet.resolve_left fun hnot => hnot ?_
    obtain ⟨hin, hfree, hafter⟩ := (feederActive_iff _ p).mp hnow
    rw [delayOver_point] at hafter
    have hbefore : alarmed s.points[p].condition = false := by
      by_contra halarmed
      rw [(feederActive_iff s p).mpr ⟨hin, hfree, Bool.not_eq_false _ ▸ halarmed⟩] at hwas
      cases hwas
    exact ⟨takeDelayExpiry_alarms hbefore hafter, hin, hfree⟩

end Sys2Proof.Machine
end

section
/-! Settles O55: the end of a STORE and of a FREEZE-TRIP, and what SUPPLY-LOW does to one in flight (R155, R176, R184, R185,
R189). -/

namespace Sys2Proof.Machine

variable {s t u v : State}

/-! ## The answer to an operation in flight (R155) -/

/-- The reserved slots of a port hold the answer, and the arbiter alone has moved besides. -/
def State.answered (s t : State) (result : ResultCode) (p : PortId) : Prop :=
  Port.sameButArbiter { s.port p with slots := (s.port p).slots.map (s.fillSlot result) } (t.port p)

theorem answerFlight_port (s : State) (result : ResultCode) (p : PortId) :
    (s.answerFlight result).port p = { s.port p with slots := (s.port p).slots.map (s.fillSlot result) } := by
  cases p <;> rfl

theorem fillSlot_congr (hstraps : v.straps = s.straps) (result : ResultCode) : v.fillSlot result = s.fillSlot result := by
  have haddress : v.panelAddress = s.panelAddress := by
    unfold State.panelAddress
    rw [hstraps]
  funext slot
  cases slot with
  | reserved id src =>
    unfold State.fillSlot State.response
    rw [haddress]
  | filled => rfl

/-- A step that answers the operation in flight. -/
theorem perform_answers {f : State → State} {result : ResultCode} (hrunning : s.phase = .running) (hf : f s = u)
    (hports : ∀ p, u.port p = (v.answerFlight result).port p) (hsame : ∀ p, v.port p = s.port p)
    (hstraps : v.straps = s.straps) :
    ∃ t, perform s f = .next t ∧ (∀ p, s.answered t result p) ∧ t = { u with field := t.field, station := t.station } := by
  refine ⟨settle s u, by rw [perform_running hrunning, hf], fun p => ?_, settle_eq s u⟩
  have hport := settle_port s u p
  rw [hports, answerFlight_port, hsame, fillSlot_congr hstraps] at hport
  exact hport

/-! ## Completion (R176, R185) -/

theorem completeStore_of_flight {x : Tables} {stage : StoreStage} (h : s.management.flight = some (.store x stage)) :
    s.completeStore =
      (({ s with nv := s.nv.completeStore x }.setFlight none).answerFlight .done).emit (.store .stored) := by
  unfold State.completeStore
  rw [h]

theorem completeFreeze_of_flight {x : TripArea} (h : s.management.flight = some (.freeze x)) :
    s.completeFreeze =
      ({ s with nv := { s.nv with tripArea := some x, frozen := true } }.setFlight none).answerFlight .done := by
  unfold State.completeFreeze
  rw [h]

theorem emit_eq (s : State) (b : ReportBody) :
    s.emit b = { s with reports := (s.emit b).reports, lost := (s.emit b).lost } := emits_view [b] s

theorem store_completes {x : Tables} {stage : StoreStage} (hrunning : s.phase = .running)
    (h : s.management.flight = some (.store x stage)) :
    ∃ t, exec .storeCompleted s = .next t ∧ (∀ p, s.answered t .done p) ∧ s.makes t [.store .stored] ∧
      t = { s with
        nv := { s.nv with image := x, markValid := true, checkAgrees := true }
        management := { s.management with flight := none }
        reports := t.reports, lost := t.lost, field := t.field, station := t.station } := by
  obtain ⟨t, hnext, hanswered, ht⟩ := perform_answers (f := State.completeStore)
    (v := { s with nv := s.nv.completeStore x }.setFlight none) (result := .done) hrunning (completeStore_of_flight h)
    (fun p => by rw [emit_eq]; cases p <;> rfl) (fun p => by cases p <;> rfl) rfl
  have hmade := emits_congr [.store .stored] (s := s)
    (u := ({ s with nv := s.nv.completeStore x }.setFlight none).answerFlight .done) rfl rfl rfl
  refine ⟨t, hnext, hanswered, ?_, ?_⟩
  · rw [State.makes, ht]
    exact hmade
  · rw [emit_eq] at ht
    rw [ht]
    rfl

theorem freeze_completes {x : TripArea} (hrunning : s.phase = .running) (h : s.management.flight = some (.freeze x)) :
    ∃ t, exec .freezeTripCompleted s = .next t ∧ (∀ p, s.answered t .done p) ∧
      t = { s with
        nv := { s.nv with tripArea := some x, frozen := true }
        management := { s.management with flight := none }, field := t.field, station := t.station } := by
  obtain ⟨t, hnext, hanswered, ht⟩ := perform_answers (f := State.completeFreeze)
    (v := { s with nv := { s.nv with tripArea := some x, frozen := true } }.setFlight none) (result := .done) hrunning
    (completeFreeze_of_flight h) (fun _ => rfl) (fun p => by cases p <;> rfl) rfl
  exact ⟨t, hnext, hanswered, ht⟩

/-! ## SUPPLY-LOW (R176, R185, R189) -/

theorem supplyLowMeetsFlight_of_freeze {x : TripArea} (h : s.management.flight = some (.freeze x)) :
    s.supplyLowMeetsFlight =
      (({ s with nv := { s.nv with tripArea := none } }.setFlight none).answerFlight .busy).noteRefusal
        { request := 10, table := none, index := none, result := .busy } := by
  unfold State.supplyLowMeetsFlight
  rw [h]

/-- A STORE that SUPPLY-LOW abandons, before its answer. -/
def State.storeFails (s : State) : State :=
  (({ s with freeDraws := s.freeDraws + 1 }.setFlight none).setFlag flagStoreFail).emit (.store .abandoned)

theorem supplyLowMeetsFlight_of_begun {x : Tables} {stage : StoreStage} (h : s.management.flight = some (.store x stage))
    (hbegun : s.finalWriteBegun stage = true) :
    s.supplyLowMeetsFlight = { s with freeDraws := s.freeDraws + 1 }.setFlight (some (.store x .final)) := by
  unfold State.supplyLowMeetsFlight
  rw [h]
  dsimp only
  rw [if_pos hbegun]

theorem supplyLowMeetsFlight_of_waiting {x : Tables} {stage : StoreStage} (h : s.management.flight = some (.store x stage))
    (hwaits : s.finalWriteBegun stage = false) :
    s.supplyLowMeetsFlight =
      (s.storeFails.answerFlight .busy).noteRefusal { request := 11, table := none, index := none, result := .busy } := by
  unfold State.supplyLowMeetsFlight
  rw [h]
  dsimp only
  rw [hwaits]
  rfl

/-- The part as SUPPLY-LOW begins, before the operation in flight meets it. -/
def State.wentLow (s : State) (x : Nat) : State := (s.supplied x true).setFlag flagSupplyLow

theorem wentLow_offHealth (s : State) (x : Nat) : (s.wentLow x).offHealth = s.offHealth := setFlag_view _ _

theorem takeSupply_low {x : Nat} (hlasts : 160 ≤ x) (hlow : x < 190) (hwas : s.health.supplyLow = false) :
    s.takeSupply x = (s.wentLow x).supplyLowMeetsFlight := by
  rw [takeSupply_eq (low := true) hlasts (by simp [hlow]), hwas]
  rfl

/-- The health record of a flag that is newly SET (R135). -/
theorem setFlag_reported {n : Fin 11} (h : Strokes s v) (hclock : v.clock = s.clock) (hclear : v.flagSet n = false) :
    s.reported (v.setFlag n) (.health n true) := by
  have hset : v.setFlag n =
      ({ v with health := { v.health with flags := addToSet v.health.flags n.val } }.emit (.health n true)).evaluateFeeder := by
    rw [State.setFlag, hclear, if_neg (by decide), State.raiseFlag, hclear, if_neg (by decide)]
  rw [hset]
  refine (evaluateFeeder_strokes _).reported (reported_behind
    (v := { v with health := { v.health with flags := addToSet v.health.flags n.val } }) (h.trans (Strokes.write rfl)) hclock _)

theorem clock_of_offHealth (h : t.offHealth = s.offHealth) : t.clock = s.clock := (congrArg State.clock h :)

theorem wentLow_strokes (s : State) (x : Nat) : Strokes s (s.wentLow x) :=
  strokes_behind (setFlag_strokes (s.supplied x true) flagSupplyLow) rfl

theorem wentLow_flags (s : State) (x : Nat) : (s.wentLow x).health.flags = s.health.flags ||| BitVec.twoPow 11 2 := by
  rw [State.wentLow, setFlag_health]
  rfl

/-- A STORE withdrawn, before its flag and its record. -/
def State.storeDropped (s : State) : State := { s with freeDraws := s.freeDraws + 1 }.setFlight none

theorem storeDropped_port (s : State) (p : PortId) : s.storeDropped.port p = s.port p := by cases p <;> rfl

theorem storeDropped_straps (s : State) : s.storeDropped.straps = s.straps := rfl

theorem noteRefusal_port (s : State) (r : LastRefusal) (p : PortId) : (s.noteRefusal r).port p = s.port p := by
  cases p <;> rfl

theorem storeFails_eq (s : State) : s.storeFails = (s.storeDropped.setFlag flagStoreFail).emit (.store .abandoned) := rfl

theorem storeFails_offHealth (s : State) : s.storeFails.offHealth = s.storeDropped.offHealth := by
  rw [storeFails_eq]
  exact (offHealth_of (emit_view _ _)).trans (setFlag_view _ _)

theorem storeFails_health (s : State) :
    s.storeFails.health.flags = s.health.flags ||| BitVec.twoPow 11 10 := by
  rw [storeFails_eq, emit_health, setFlag_health]
  rfl

theorem storeFails_reported (h : Strokes s v) (hclock : v.clock = s.clock) :
    s.reported v.storeFails (.store .abandoned) ∧
      (inSet v.health.flags 10 = false → s.reported v.storeFails (.health 10 true)) := by
  have hdropped : Strokes s v.storeDropped := h.trans (Strokes.write rfl)
  have hflag := setFlag_strokes v.storeDropped flagStoreFail
  have hclock' : (v.storeDropped.setFlag flagStoreFail).clock = s.clock := (clock_of_offHealth (setFlag_view _ _)).trans hclock
  rw [storeFails_eq]
  refine ⟨reported_behind (hdropped.trans hflag) hclock' _, fun hclear => ?_⟩
  exact reported_emit _ (setFlag_reported (n := flagStoreFail) hdropped hclock hclear)

theorem noted_health_queue {result : ResultCode} {r : LastRefusal}
    (h : t = { (v.answerFlight result).noteRefusal r with field := t.field, station := t.station }) :
    t.health = v.health ∧ t.queue = v.queue := ⟨(congrArg State.health h :), (congrArg State.queue h :)⟩

/-- A state that a STORE's failure reaches. -/
theorem abandoned_sameButHealth {w : State} {r : LastRefusal} (hfails : v.offHealth = w.storeDropped.offHealth)
    (hview : w.offHealth = s.offHealth)
    (ht : t = { (v.answerFlight .busy).noteRefusal r with field := t.field, station := t.station }) :
    { s with management := { s.management with flight := none, lastRefusal := some r } }.sameButHealth t := by
  have hports : { v with management := { v.management with lastRefusal := some r } }.sameButPorts t := sameButPorts_of_eq ht
  have hnoted : ({ v with management := { v.management with lastRefusal := some r } } : State).offHealth =
      ({ w.storeDropped with management := { w.storeDropped.management with lastRefusal := some r } } : State).offHealth :=
    congrArg (fun y : State => { y with management := { y.management with lastRefusal := some r } }) hfails
  have hdropped : ({ w.storeDropped with management := { w.storeDropped.management with lastRefusal := some r } } : State).offHealth =
      ({ s with
        freeDraws := s.freeDraws + 1
        management := { s.management with flight := none, lastRefusal := some r } } : State).offHealth :=
    congrArg (fun y : State => { y with
      freeDraws := y.freeDraws + 1, management := { y.management with flight := none, lastRefusal := some r } }) hview
  have hreach : { s with
      freeDraws := s.freeDraws + 1
      management := { s.management with flight := none, lastRefusal := some r } }.sameButHealth t :=
    sameButHealth_of hports (hnoted.trans hdropped)
  exact hreach

section Low

variable {f : State → State} {x : Nat} (hrunning : s.phase = .running) (hf : f s = (s.wentLow x).supplyLowMeetsFlight)
include hrunning hf

theorem freeze_ends {a : TripArea} (h : s.management.flight = some (.freeze a)) :
    ∃ t, perform s f = .next t ∧ (∀ p, s.answered t .busy p) ∧
      { s with
        nv := { s.nv with tripArea := none }
        management := { s.management with
          flight := none, lastRefusal := some { request := 10, table := none, index := none, result := .busy } }
        }.sameButHealth t := by
  have hview := wentLow_offHealth s x
  have hmanagement := management_of_offHealth hview
  rw [supplyLowMeetsFlight_of_freeze (x := a) (by rw [hmanagement, h])] at hf
  generalize s.wentLow x = w at *
  obtain ⟨t, hnext, hanswered, ht⟩ := perform_answers (v := { w with nv := { w.nv with tripArea := none } }.setFlight none)
    (result := .busy) hrunning hf (fun p => by cases p <;> rfl)
    (fun p => (by cases p <;> rfl : _ = w.port p).trans (port_of_offHealth hview p))
    ((rfl : _ = w.straps).trans (straps_of_offHealth hview))
  refine ⟨t, hnext, hanswered, ?_⟩
  exact sameButHealth_of (sameButPorts_of_eq (u := { w with
      nv := { w.nv with tripArea := none }
      management := { w.management with
        flight := none, lastRefusal := some { request := 10, table := none, index := none, result := .busy } } }) ht)
    (congrArg (fun y : State => { y with
      nv := { y.nv with tripArea := none }
      management := { y.management with
        flight := none, lastRefusal := some { request := 10, table := none, index := none, result := .busy } } }) hview)

theorem store_goesOn {a : Tables} {stage : StoreStage} (h : s.management.flight = some (.store a stage))
    (hbegun : (s.wentLow x).finalWriteBegun stage = true) :
    ∃ t, perform s f = .next t ∧ s.portsIdle t ∧
      { s with management := { s.management with flight := some (.store a .final) } }.sameButHealth t := by
  have hview := wentLow_offHealth s x
  have hmanagement := management_of_offHealth hview
  rw [supplyLowMeetsFlight_of_begun (by rw [hmanagement, h]) hbegun] at hf
  generalize s.wentLow x = w at *
  obtain ⟨t, hnext, hidle, ht⟩ := perform_updates hrunning hf fun p =>
    (by cases p <;> rfl : _ = w.port p).trans (port_of_offHealth hview p)
  have hports : { w with management := { w.management with flight := some (.store a .final) } }.sameButPorts t := ht
  exact ⟨t, hnext, hidle, sameButHealth_of hports
    (congrArg (fun y : State => { y with management := { y.management with flight := some (.store a .final) } }) hview)⟩

theorem store_abandoned {a : Tables} {stage : StoreStage} (h : s.management.flight = some (.store a stage))
    (hwaits : (s.wentLow x).finalWriteBegun stage = false) :
    ∃ t, perform s f = .next t ∧ (∀ p, s.answered t .busy p) ∧
      { s with management := { s.management with
          flight := none, lastRefusal := some { request := 11, table := none, index := none, result := .busy } }
        }.sameButHealth t ∧
      inSet t.health.flags 10 = true ∧ s.reported t (.store .abandoned) ∧
      (inSet s.health.flags 10 = false → s.reported t (.health 10 true)) := by
  have hview := wentLow_offHealth s x
  have hmanagement := management_of_offHealth hview
  have hflags := wentLow_flags s x
  have hstrokes := wentLow_strokes s x
  rw [supplyLowMeetsFlight_of_waiting (by rw [hmanagement, h]) hwaits] at hf
  generalize s.wentLow x = w at *
  have hfails := storeFails_offHealth w
  obtain ⟨t, hnext, hanswered, ht⟩ := perform_answers (v := w.storeFails) (result := .busy) hrunning hf
    (noteRefusal_port _ _)
    (fun p => (port_of_offHealth hfails p).trans ((storeDropped_port w p).trans (port_of_offHealth hview p)))
    ((straps_of_offHealth hfails).trans ((storeDropped_straps w).trans (straps_of_offHealth hview)))
  obtain ⟨hhealth, hqueue⟩ := noted_health_queue ht
  obtain ⟨habandoned, hflag⟩ := storeFails_reported hstrokes (clock_of_offHealth hview)
  refine ⟨t, hnext, hanswered, ?_, ?_, reported_congr hqueue habandoned, fun hclear => reported_congr hqueue (hflag ?_)⟩
  · exact abandoned_sameButHealth hfails hview ht
  · rw [hhealth, storeFails_health]
    exact (inSet_add _ 10 10).trans (Bool.or_true _)
  · rw [hflags]
    exact (inSet_add _ 2 10).trans (by rw [Bool.or_eq_false_iff]; exact ⟨hclear, by decide⟩)

end Low

/-- Settles O55. -/
theorem storeAndFreezeEnd : Obligations.StoreAndFreezeEnd := by
  unfold Obligations.StoreAndFreezeEnd
  refine ⟨fun s hrunning => ⟨fun x stage h => ?_, fun x h => ?_⟩, fun s x i hi hrunning hlasts hlow hwas => ?_⟩
  · exact store_completes hrunning h
  · exact freeze_completes hrunning h
  · have hf := takeSupply_low hlasts hlow hwas
    obtain ⟨f, hexec, hf⟩ : ∃ f, exec i s = perform s f ∧ f s = (s.wentLow x).supplyLowMeetsFlight := by
      rcases hi with rfl | rfl
      · exact ⟨fun s => s.takeSupply x, rfl, hf⟩
      · refine ⟨fun s => if !s.health.supplyLow && x < Config.supplyLowBelow then s.takeSupply x else s, rfl, ?_⟩
        dsimp only
        rw [hwas, if_pos (by simp [Config.supplyLowBelow, hlow]), hf]
    rw [hexec]
    refine ⟨fun a h => freeze_ends hrunning hf h, fun a h => store_abandoned hrunning hf h rfl, fun a h => ?_,
      fun a h => store_goesOn hrunning hf h rfl⟩
    cases hbegun : (s.wentLow x).finalWriteBegun .writing with
    | true =>
      obtain ⟨t, hnext, hgoes⟩ := store_goesOn hrunning hf h hbegun
      exact ⟨t, hnext, .inr hgoes⟩
    | false =>
      obtain ⟨t, hnext, habandoned⟩ := store_abandoned hrunning hf h hbegun
      exact ⟨t, hnext, .inl habandoned⟩

end Sys2Proof.Machine
end

section
/-! Settles O42: SOURCE writes (R2, R3). -/

namespace Sys2Proof.Machine

variable {s t u : State}

/-! ## Overlap (R2) -/

theorem rangesMeet_iff {a n b m : Nat} : rangesMeet a n b m = true ↔ ¬(a + n ≤ b ∨ b + m ≤ a) := by
  unfold rangesMeet
  rw [Bool.and_eq_true, decide_eq_true_iff, decide_eq_true_iff]
  omega

theorem sourceOverlaps_iff {i : Fin 24} {x : SourceEntry} :
    s.sourceOverlaps i x = true ↔ ∃ (o : SourceEntry) (j : Fin 24), j ≠ i ∧ s.tables.source[j] = some o ∧ ¬x.apart o := by
  have hmeets : ∀ o : SourceEntry, (rangesMeet x.firstPoint x.count o.firstPoint o.count ||
      (decide (x.scanner = o.scanner) && rangesMeet x.firstChannel x.count o.firstChannel o.count)) = true ↔
      ¬x.apart o := fun o => by
    rw [Bool.or_eq_true, Bool.and_eq_true, decide_eq_true_iff, rangesMeet_iff, rangesMeet_iff]
    unfold SourceEntry.apart
    tauto
  unfold State.sourceOverlaps
  rw [List.any_eq_true]
  constructor
  · rintro ⟨j, -, hj⟩
    rw [Bool.and_eq_true, decide_eq_true_iff] at hj
    obtain ⟨hne, hj⟩ := hj
    cases hentry : s.tables.source[j] with
    | none =>
      rw [hentry] at hj
      cases hj
    | some o =>
      rw [hentry] at hj
      exact ⟨o, j, hne, hentry, (hmeets o).mp hj⟩
  · rintro ⟨o, j, hne, hentry, hapart⟩
    refine ⟨j, mem_ascending j, ?_⟩
    rw [hentry, Bool.and_eq_true, decide_eq_true_iff]
    exact ⟨hne, (hmeets o).mpr hapart⟩

/-! ## The judgement -/

/-- The entry to be written overlaps another (R2). -/
def State.overlapsAt (s : State) (i : Fin 24) (e : Option SourceEntry) : Prop :=
  ∃ (x o : SourceEntry) (j : Fin 24), e = some x ∧ j ≠ i ∧ s.tables.source[j] = some o ∧ ¬x.apart o

/-- A point of the old range or of the new one is IN (R3). -/
def State.servesAt (s : State) (i : Fin 24) (e : Option SourceEntry) : Prop :=
  ∃ p : Fin 256, (holdsPoint s.tables.source[i] p = true ∨ holdsPoint e p = true) ∧ s.tables.point[p].service = .inn

theorem servesAt_iff {i : Fin 24} {e : Option SourceEntry} :
    ((rangeOf s.tables.source[i] ++ rangeOf e).any fun p => s.tables.point[p].service = .inn) = true ↔ s.servesAt i e := by
  rw [List.any_eq_true]
  unfold State.servesAt
  refine exists_congr fun p => ?_
  rw [List.mem_append, mem_rangeOf_iff, mem_rangeOf_iff, decide_eq_true_iff]

theorem judgeSource_of_overlap {i : Fin 24} {e : Option SourceEntry} (h : s.overlapsAt i e) :
    s.judgeSource i e = refuse s .badValue := by
  obtain ⟨x, o, j, rfl, hne, hentry, hapart⟩ := h
  exact if_pos (sourceOverlaps_iff.mpr ⟨o, j, hne, hentry, hapart⟩)

theorem judgeSource_of_apart {i : Fin 24} {e : Option SourceEntry} (h : ¬s.overlapsAt i e) :
    s.judgeSource i e =
      if (rangeOf s.tables.source[i] ++ rangeOf e).any fun p => s.tables.point[p].service = .inn then
        refuse s .refusedInService
      else written (s.writeSource i e) .source i.val := by
  unfold State.judgeSource
  refine if_neg ?_
  cases e with
  | none => exact Bool.false_ne_true
  | some x =>
    intro hoverlaps
    obtain ⟨o, j, hne, hentry, hapart⟩ := sourceOverlaps_iff.mp hoverlaps
    exact h ⟨x, o, j, rfl, hne, hentry, hapart⟩

/-! ## What an accepted write moves besides the entry (R3) -/

/-- Everything but points and the tracking list. -/
def State.offMap (s : State) : State := { s with points := State.reset.points, scanners := State.reset.scanners }

section OffMap

variable (h : t.offMap = s.offMap)
include h

theorem inputs_of_offMap : t.inputs = s.inputs := (congrArg State.inputs h :)

theorem clock_of_offMap : t.clock = s.clock := (congrArg State.clock h :)

theorem tables_of_offMap : t.tables = s.tables := (congrArg State.tables h :)

theorem entries_of_offMap : t.entries = s.entries := (congrArg State.entries h :)

theorem management_of_offMap : t.management = s.management := (congrArg State.management h :)

theorem straps_of_offMap : t.straps = s.straps := (congrArg State.straps h :)

theorem port_of_offMap (q : PortId) : t.port q = s.port q := by
  cases q
  · exact (congrArg State.field h :)
  · exact (congrArg State.station h :)

end OffMap

theorem modPoint_offMap (s : State) (p : Fin 256) (f : Point → Point) : (s.modPoint p f).offMap = s.offMap := by
  unfold State.modPoint State.offMap
  rfl

/-- The part with a Source Map entry replaced, and nothing taken from it yet. -/
def State.withSource (s : State) (i : Fin 24) (e : Option SourceEntry) : State :=
  { s with
    tables := { s.tables with source := upd s.tables.source i fun _ => e }
    entries := upd s.entries i fun _ => { freshness := .stopped, gapPending := false } }

/-- The points of a list lose their source. -/
def State.unmapPoints (s : State) (l : List (Fin 256)) : State := forEach l (fun p s => s.modPoint p Point.unmapped) s

/-- The points of a direct input's entry take the present readings (R3). -/
def State.takePresentReadings (s : State) (e : Option SourceEntry) : State :=
  match e with
  | none => s
  | some r => if r.scanner.val = 31 then forEach (ascending 8) (fun c s => s.takePresentReading r c) s else s

/-- An accepted SOURCE write, its gaps not yet resolved. -/
def State.remapped (s : State) (i : Fin 24) (e : Option SourceEntry) : State :=
  ((s.withSource i e).unmapPoints (rangeOf s.tables.source[i] ++ rangeOf e)).takePresentReadings e

theorem writeSource_eq (s : State) (i : Fin 24) (e : Option SourceEntry) :
    s.writeSource i e = ((s.remapped i e).resolveGapOf s.tables.source[i]).resolveGapOf e := by
  cases e with
  | none => rfl
  | some r => rfl

theorem unmapPoints_offMap (s : State) (l : List (Fin 256)) : (s.unmapPoints l).offMap = s.offMap :=
  forEach_eq (m := State.offMap) l s fun p _ s => modPoint_offMap s p _

theorem unmapPoints_point (p : Fin 256) (l : List (Fin 256)) :
    ∀ s : State, (s.unmapPoints l).points[p] = if p ∈ l then s.points[p].unmapped else s.points[p] := by
  unfold State.unmapPoints
  induction l with
  | nil => exact fun s => rfl
  | cons q l ih =>
    intro s
    have hget : (s.modPoint q Point.unmapped).points[p] = if q = p then s.points[q].unmapped else s.points[p] :=
      upd_get s.points q p Point.unmapped
    rw [forEach_cons, ih, hget]
    by_cases hq : q = p
    · subst hq
      rw [if_pos rfl, if_pos List.mem_cons_self]
      exact ite_self _
    · rw [if_neg hq]
      refine if_congr ?_ rfl rfl
      rw [List.mem_cons, or_iff_right (Ne.symm hq)]

/-! ## Present readings -/

theorem takePresentReading_offMap (s : State) (r : SourceEntry) (c : Fin 8) :
    (s.takePresentReading r c).offMap = s.offMap := by
  unfold State.takePresentReading
  split
  next => exact modPoint_offMap s _ _
  next => rfl

/-- A point with a present reading (R3). -/
def Point.present (v : Point) (raw : Raw) (clock : Stamp) : Point :=
  { v with raw := some raw, quality := .good, changeStamp := some clock }

theorem takePresentReading_own {r : SourceEntry} {c : Fin 8} {p : Fin 256} {raw : Raw} (hp : r.pointOf c.val = some p)
    (hraw : s.inputs[c].reading = some raw) :
    (s.takePresentReading r c).points[p] = s.points[p].present raw s.clock := by
  have hread : s.takePresentReading r c = s.modPoint p fun v => v.present raw s.clock := by
    unfold State.takePresentReading
    rw [hp, hraw]
    rfl
  generalize s.takePresentReading r c = u at hread
  rw [hread]
  exact upd_self _ _ _

theorem takePresentReading_other {r : SourceEntry} {c : Fin 8} {p : Fin 256}
    (h : r.pointOf c.val = some p → s.inputs[c].reading = none) : (s.takePresentReading r c).points[p] = s.points[p] := by
  unfold State.takePresentReading
  split
  next q raw hq hraw =>
    refine upd_ne _ _ fun heq => ?_
    rw [h (heq ▸ hq)] at hraw
    cases hraw
  next => rfl

theorem presentReadings_offMap (s : State) (r : SourceEntry) (cs : List (Fin 8)) :
    (forEach cs (fun c s => s.takePresentReading r c) s).offMap = s.offMap :=
  forEach_eq (m := State.offMap) cs s fun c _ s => takePresentReading_offMap s r c

theorem presentReadings_other {r : SourceEntry} {p : Fin 256} (cs : List (Fin 8)) (s : State)
    (h : ∀ c ∈ cs, r.pointOf c.val = some p → s.inputs[c].reading = none) :
    (forEach cs (fun c s => s.takePresentReading r c) s).points[p] = s.points[p] := by
  refine (forEach_keeps (P := fun u => u.inputs = s.inputs ∧ u.points[p] = s.points[p]) cs s (fun c hc u hu => ?_)
    ⟨rfl, rfl⟩).2
  obtain ⟨hinputs, hpoint⟩ := hu
  refine ⟨(inputs_of_offMap (takePresentReading_offMap u r c)).trans hinputs, (takePresentReading_other ?_).trans hpoint⟩
  rw [hinputs]
  exact h c hc

/-- Two channels of one entry do not land on one point. -/
theorem pointOf_injective {r : SourceEntry} {c d : Fin 8} {p : Fin 256} (hc : r.pointOf c.val = some p)
    (hd : r.pointOf d.val = some p) : c = d := by
  obtain ⟨hcfirst, -, hcp⟩ := pointOf_eq_some hc
  obtain ⟨hdfirst, -, hdp⟩ := pointOf_eq_some hd
  exact Fin.ext (by omega)

theorem presentReadings_own {r : SourceEntry} {c : Fin 8} {p : Fin 256} {raw : Raw} (hp : r.pointOf c.val = some p)
    (hraw : s.inputs[c].reading = some raw) :
    (forEach (ascending 8) (fun c s => s.takePresentReading r c) s).points[p] = s.points[p].present raw s.clock := by
  obtain ⟨before, after, hsplit⟩ := List.append_of_mem (mem_ascending c)
  have hnodup := List.nodup_finRange 8
  rw [show List.finRange 8 = ascending 8 from rfl, hsplit] at hnodup
  obtain ⟨-, hcons, hapart⟩ := List.nodup_append.mp hnodup
  have hbefore : ∀ d ∈ before, ∀ v : State, r.pointOf d.val = some p → v.inputs[d].reading = none := fun d hd _ hmap =>
    absurd (pointOf_injective hmap hp) (hapart d hd c List.mem_cons_self)
  have hafter : ∀ d ∈ after, ∀ v : State, r.pointOf d.val = some p → v.inputs[d].reading = none := fun d hd _ hmap =>
    absurd hd (pointOf_injective hp hmap ▸ (List.nodup_cons.mp hcons).1)
  rw [hsplit, forEach_append, forEach_cons]
  have hpoint := presentReadings_other before s fun d hd => hbefore d hd s
  have hview := presentReadings_offMap s r before
  generalize forEach before (fun c s => s.takePresentReading r c) s = u at *
  rw [presentReadings_other after _ fun d hd => hafter d hd _,
    takePresentReading_own hp (by rw [inputs_of_offMap hview]; exact hraw), hpoint, clock_of_offMap hview]

theorem takePresentReadings_offMap (s : State) (e : Option SourceEntry) : (s.takePresentReadings e).offMap = s.offMap := by
  unfold State.takePresentReadings
  split
  next => rfl
  next r =>
    split
    · exact presentReadings_offMap s r _
    · rfl

/-- A direct input that a written entry lets land on a point. -/
def landsOn (e : Option SourceEntry) (k : Fin 8) (p : Fin 256) : Prop :=
  ∃ x, e = some x ∧ x.scanner = 31 ∧ x.pointOf k.val = some p

theorem takePresentReadings_own {e : Option SourceEntry} {k : Fin 8} {p : Fin 256} {raw : Raw} (hlands : landsOn e k p)
    (hraw : s.inputs[k].reading = some raw) : (s.takePresentReadings e).points[p] = s.points[p].present raw s.clock := by
  obtain ⟨x, rfl, hlocal, hp⟩ := hlands
  have hall : s.takePresentReadings (some x) = forEach (ascending 8) (fun c s => s.takePresentReading x c) s :=
    if_pos (congrArg Fin.val hlocal)
  generalize s.takePresentReadings (some x) = u at hall
  rw [hall]
  exact presentReadings_own hp hraw

theorem takePresentReadings_other {e : Option SourceEntry} {p : Fin 256}
    (h : ∀ k : Fin 8, landsOn e k p → s.inputs[k].reading = none) : (s.takePresentReadings e).points[p] = s.points[p] := by
  unfold State.takePresentReadings
  split
  next => rfl
  next x =>
    split
    next hlocal => exact presentReadings_other _ s fun c _ hp => h c ⟨x, rfl, Fin.ext hlocal, hp⟩
    next => rfl

theorem withSource_other (s : State) (i : Fin 24) (e : Option SourceEntry) :
    (s.withSource i e).points = s.points ∧ (s.withSource i e).inputs = s.inputs ∧ (s.withSource i e).clock = s.clock ∧
      (s.withSource i e).scanners = s.scanners := ⟨rfl, rfl, rfl, rfl⟩

theorem remapped_offMap (s : State) (i : Fin 24) (e : Option SourceEntry) :
    (s.remapped i e).offMap = (s.withSource i e).offMap :=
  (takePresentReadings_offMap _ e).trans (unmapPoints_offMap _ _)

/-- The points behind an accepted write (R3). -/
theorem remapped_point (s : State) (i : Fin 24) (e : Option SourceEntry) (p : Fin 256) :
    let lost := if holdsPoint s.tables.source[i] p || holdsPoint e p then s.points[p].unmapped else s.points[p]
    (∀ k raw, landsOn e k p → s.inputs[k].reading = some raw → (s.remapped i e).points[p] = lost.present raw s.clock) ∧
      ((∀ k : Fin 8, landsOn e k p → s.inputs[k].reading = none) → (s.remapped i e).points[p] = lost) := by
  have hlost := unmapPoints_point p (rangeOf s.tables.source[i] ++ rangeOf e) (s.withSource i e)
  have hview := unmapPoints_offMap (s.withSource i e) (rangeOf s.tables.source[i] ++ rangeOf e)
  obtain ⟨hpoints, hinputs, hclock, -⟩ := withSource_other s i e
  have hmem : p ∈ rangeOf s.tables.source[i] ++ rangeOf e ↔
      (holdsPoint s.tables.source[i] p || holdsPoint e p) = true := by
    rw [List.mem_append, mem_rangeOf_iff, mem_rangeOf_iff, Bool.or_eq_true]
  rw [if_congr hmem rfl rfl, hpoints] at hlost
  unfold State.remapped
  generalize (s.withSource i e).unmapPoints (rangeOf s.tables.source[i] ++ rangeOf e) = u at *
  dsimp only
  rw [← hlost, ← hclock, ← hinputs, ← clock_of_offMap hview, ← inputs_of_offMap hview]
  exact ⟨fun k raw hlands hraw => takePresentReadings_own hlands hraw, takePresentReadings_other⟩

/-! ## Gaps (R3) -/

/-- An entry, where there is one, names a scanner. -/
def namesTracked (e : Option SourceEntry) (k : Fin 31) : Prop := ∃ x, e = some x ∧ x.scanner.val = k.val

theorem resolveGapOf_named {e : Option SourceEntry} {k : Fin 31} (h : namesTracked e k) : s.resolveGapOf e = s.resolveGap k := by
  obtain ⟨x, rfl, hk⟩ := h
  unfold State.resolveGapOf
  dsimp only
  rw [hk, index?_val]

theorem resolveGapOf_cases (s : State) (e : Option SourceEntry) :
    s.resolveGapOf e = s ∧ (∀ k, ¬namesTracked e k) ∨
      ∃ k, s.resolveGapOf e = s.resolveGap k ∧ ∀ j, namesTracked e j ↔ j = k := by
  by_cases h : ∃ k, namesTracked e k
  · obtain ⟨k, hk⟩ := h
    refine .inr ⟨k, resolveGapOf_named hk, fun j => ⟨fun hj => ?_, fun hj => hj ▸ hk⟩⟩
    obtain ⟨x, hx, hxk⟩ := hk
    obtain ⟨y, hy, hyj⟩ := hj
    rw [hx] at hy
    cases hy
    exact Fin.ext (hyj.symm.trans hxk)
  · refine .inl ⟨?_, fun k hk => h ⟨k, hk⟩⟩
    unfold State.resolveGapOf
    split
    next => rfl
    next x =>
      split
      next => rfl
      next k hk => exact absurd ⟨k, x, rfl, (index?_some hk).symm⟩ h

theorem resolveGap_offMap (s : State) (k : Fin 31) :
    (s.resolveGap k).offMap = s.offMap ∧ (s.resolveGap k).points = s.points := by
  rw [resolveGap_eq]
  split
  · exact ⟨by unfold State.offMap; rfl, rfl⟩
  · exact ⟨rfl, rfl⟩

theorem resolveGapOf_offMap (s : State) (e : Option SourceEntry) :
    (s.resolveGapOf e).offMap = s.offMap ∧ (s.resolveGapOf e).points = s.points := by
  rcases resolveGapOf_cases s e with ⟨hsame, -⟩ | ⟨k, hresolves, -⟩
  · rw [hsame]
    exact ⟨rfl, rfl⟩
  · rw [hresolves]
    exact resolveGap_offMap s k

theorem resolveGapOf_scanner (s : State) (e : Option SourceEntry) (k : Fin 31) :
    (namesTracked e k ∧ s.gapOver k → (s.resolveGapOf e).scanners[k] = { s.scanners[k] with status := .tracking }) ∧
      (¬(namesTracked e k ∧ s.gapOver k) → (s.resolveGapOf e).scanners[k] = s.scanners[k]) := by
  rcases resolveGapOf_cases s e with ⟨hsame, hnone⟩ | ⟨j, hresolves, hnamed⟩
  · rw [hsame]
    exact ⟨fun h => absurd h.1 (hnone k), fun _ => rfl⟩
  · have hj := resolveGap_eq s j
    rw [← hresolves] at hj
    generalize s.resolveGapOf e = u at hj
    rw [hnamed k, hj]
    split
    next hover =>
      refine ⟨fun ⟨hkj, _⟩ => ?_, fun hnot => ?_⟩
      · rw [hkj]
        exact upd_self _ _ _
      · exact upd_ne _ _ fun hjk => hnot ⟨hjk.symm, hjk ▸ hover⟩
    next hopen => exact ⟨fun ⟨hkj, hover⟩ => absurd (hkj ▸ hover) hopen, fun _ => rfl⟩

/-- No entry of the scanner is gap-pending. -/
def State.gapless (s : State) (k : Fin 31) : Prop :=
  ∀ j : Fin 24, s.tables.entryNames j k.val = true → s.entries[j].gapPending = false

theorem gapless_of_offMap (h : t.offMap = s.offMap) (k : Fin 31) : t.gapless k ↔ s.gapless k := by
  unfold State.gapless
  rw [tables_of_offMap h, entries_of_offMap h]

/-- The scanners of both entries leave GAP when nothing of theirs is pending (R3). -/
theorem resolved_scanner (s : State) (a e : Option SourceEntry) (k : Fin 31) :
    let resolved := s.scanners[k].status = .gap ∧ (namesTracked a k ∨ namesTracked e k) ∧ s.gapless k
    let t := (s.resolveGapOf a).resolveGapOf e
    (resolved → t.scanners[k] = { s.scanners[k] with status := .tracking }) ∧ (¬resolved → t.scanners[k] = s.scanners[k]) := by
  obtain ⟨hfirst, hfirstNot⟩ := resolveGapOf_scanner s a k
  have hsettled := gapless_of_offMap (resolveGapOf_offMap s a).1 k
  obtain ⟨hsecond, hsecondNot⟩ := resolveGapOf_scanner (s.resolveGapOf a) e k
  generalize s.resolveGapOf a = u at *
  have hover : u.gapOver k ↔ u.scanners[k].status = .gap ∧ s.gapless k := and_congr Iff.rfl hsettled
  dsimp only
  by_cases ha : namesTracked a k ∧ s.gapOver k
  · have hu := hfirst ha
    have hnot : ¬(namesTracked e k ∧ u.gapOver k) := fun h => by
      have hstatus := (hover.mp h.2).1
      rw [hu] at hstatus
      cases hstatus
    rw [hsecondNot hnot, hu]
    exact ⟨fun _ => rfl, fun h => absurd ⟨ha.2.1, .inl ha.1, ha.2.2⟩ h⟩
  · have hu := hfirstNot ha
    rw [hu] at hsecond hsecondNot hover
    refine ⟨fun ⟨hgap, hnamed, hsettles⟩ =>
        hsecond ⟨hnamed.resolve_left fun h => ha ⟨h, hgap, hsettles⟩, hover.mpr ⟨hgap, hsettles⟩⟩,
      fun hnot => hsecondNot fun ⟨hnamed, h⟩ => ?_⟩
    obtain ⟨hgap, hsettles⟩ := hover.mp h
    exact hnot ⟨hgap, .inr hnamed, hsettles⟩

/-! ## The request -/

theorem writeSource_offMap (s : State) (i : Fin 24) (e : Option SourceEntry) :
    (s.writeSource i e).offMap = (s.withSource i e).offMap ∧ (s.writeSource i e).points = (s.remapped i e).points := by
  rw [writeSource_eq]
  obtain ⟨hfirst, hfirstPoints⟩ := resolveGapOf_offMap (s.remapped i e) s.tables.source[i]
  obtain ⟨hsecond, hsecondPoints⟩ := resolveGapOf_offMap ((s.remapped i e).resolveGapOf s.tables.source[i]) e
  exact ⟨hsecond.trans (hfirst.trans (remapped_offMap s i e)), hsecondPoints.trans hfirstPoints⟩

theorem remapped_scanners (s : State) (i : Fin 24) (e : Option SourceEntry) : (s.remapped i e).scanners = s.scanners := by
  have hread : ∀ u : State, (u.takePresentReadings e).scanners = u.scanners := fun u => by
    unfold State.takePresentReadings
    split
    next => rfl
    next r =>
      split
      · refine forEach_eq (m := State.scanners) _ u fun c _ v => ?_
        unfold State.takePresentReading
        split <;> rfl
      · rfl
  exact (hread _).trans (forEach_eq (m := State.scanners) _ (s.withSource i e) fun _ _ _ => rfl)

theorem writeSource_scanner (s : State) (i : Fin 24) (e : Option SourceEntry) (k : Fin 31) :
    let t := s.writeSource i e
    let resolved := s.scanners[k].status = .gap ∧ (namesTracked s.tables.source[i] k ∨ namesTracked e k) ∧ t.gapless k
    (resolved → t.scanners[k] = { s.scanners[k] with status := .tracking }) ∧ (¬resolved → t.scanners[k] = s.scanners[k]) := by
  have hspec := resolved_scanner (s.remapped i e) s.tables.source[i] e k
  have hsettled := gapless_of_offMap ((writeSource_offMap s i e).1.trans (remapped_offMap s i e).symm) k
  rw [← writeSource_eq, remapped_scanners] at hspec
  dsimp only at hspec ⊢
  rw [hsettled]
  exact hspec

theorem landsOn_holds {e : Option SourceEntry} {k : Fin 8} {p : Fin 256} (h : landsOn e k p) : holdsPoint e p = true := by
  obtain ⟨x, rfl, -, hp⟩ := h
  obtain ⟨hfirst, hlast, hval⟩ := pointOf_eq_some hp
  unfold holdsPoint
  rw [Bool.and_eq_true, decide_eq_true_iff, decide_eq_true_iff]
  omega

theorem namesTracked_or {a e : Option SourceEntry} {k : Fin 31} :
    (∃ x, (a = some x ∨ e = some x) ∧ x.scanner.val = k.val) ↔ namesTracked a k ∨ namesTracked e k := by
  unfold namesTracked
  rw [← exists_or]
  exact exists_congr fun x => or_and_right

theorem asTaken_inputs (s : State) (r : Request) : (s.asTaken r).inputs = s.inputs := modPort_inputs _ _ _

theorem asTaken_clock (s : State) (r : Request) : (s.asTaken r).clock = s.clock := modPort_clock _ _ _

theorem asTaken_scanners (s : State) (r : Request) : (s.asTaken r).scanners = s.scanners := modPort_scanners _ _ _

theorem sourceSide_of_written {m : Management} (h : t = { u with management := m, field := t.field, station := t.station }) :
    t.tables = u.tables ∧ t.entries = u.entries ∧ t.points = u.points ∧ t.scanners = u.scanners :=
  ⟨(congrArg State.tables h :), (congrArg State.entries h :), (congrArg State.points h :), (congrArg State.scanners h :)⟩

/-- A point behind an accepted write, as R3 gives it. -/
theorem point_judged {a e : Option SourceEntry} {p : Fin 256} {v w : Point} {clock : Stamp} {inputs : Vector DirectInput 8}
    (h : let lost := if holdsPoint a p || holdsPoint e p then v.unmapped else v
      (∀ k raw, landsOn e k p → inputs[k].reading = some raw → w = lost.present raw clock) ∧
        ((∀ k : Fin 8, landsOn e k p → inputs[k].reading = none) → w = lost)) :
    if holdsPoint a p || holdsPoint e p then
      w.condition = .normal ∧ w.delay = .stopped ∧
      (∀ (x : SourceEntry) (k : Fin 8), e = some x → x.scanner = 31 → x.pointOf k.val = some p →
        ∀ raw, inputs[k].reading = some raw → w.raw = some raw ∧ w.quality = .good ∧ w.changeStamp = some clock) ∧
      ((∀ (x : SourceEntry) (k : Fin 8), e = some x → x.scanner = 31 → x.pointOf k.val = some p → inputs[k].reading = none) →
        w.raw = none ∧ w.quality = .unseen ∧ w.changeStamp = none)
    else w = v := by
  dsimp only at h
  obtain ⟨hread, hunread⟩ := h
  by_cases hheld : (holdsPoint a p || holdsPoint e p) = true
  · rw [if_pos hheld] at hread hunread ⊢
    have hrest : w.condition = .normal ∧ w.delay = .stopped := by
      by_cases hany : ∃ k raw, landsOn e k p ∧ inputs[k].reading = some raw
      · obtain ⟨k, raw, hlands, hraw⟩ := hany
        rw [hread k raw hlands hraw]
        exact ⟨rfl, rfl⟩
      · rw [hunread fun k hlands => Option.eq_none_iff_forall_ne_some.mpr fun raw hraw => hany ⟨k, raw, hlands, hraw⟩]
        exact ⟨rfl, rfl⟩
    refine ⟨hrest.1, hrest.2, fun x k he hlocal hp raw hraw => ?_, fun hnone => ?_⟩
    · rw [hread k raw ⟨x, he, hlocal, hp⟩ hraw]
      exact ⟨rfl, rfl, rfl⟩
    · rw [hunread fun k ⟨x, he, hlocal, hp⟩ => hnone x k he hlocal hp]
      exact ⟨rfl, rfl, rfl⟩
  · rw [if_neg hheld] at hunread ⊢
    refine hunread fun k hlands => absurd ?_ hheld
    rw [landsOn_holds hlands, Bool.or_true]

/-- Settles O42. -/
theorem writeSourceJudged : Obligations.WriteSourceJudged := by
  unfold Obligations.WriteSourceJudged
  intro s r i e rec hadmits hflight hrange hspelled hargs
  have hparse : parseSource rec = some (some e) := parseSource_spelled hrange hspelled
  have hoverlaps : (s.asTaken r).overlapsAt i e ↔ s.overlapsAt i e := by
    unfold State.overlapsAt
    rw [asTaken_tables]
  have hserves : (s.asTaken r).servesAt i e ↔ s.servesAt i e := by
    unfold State.servesAt
    rw [asTaken_tables]
  have refused : ∀ result : ResultCode, result ≠ .done → (s.asTaken r).judgeSource i e = refuse (s.asTaken r) result →
      ∃ t, exec (.writeSource r) s = .next t ∧ s.refusal t r (writeNote r .source result) := fun result hresult hjudge =>
    performWrite_refuses (parse := fun _ => parseSource) (own := State.judgeSource) (by decide) hadmits hflight hargs hparse
      hjudge hresult
  refine ⟨fun hmeets => refused _ (by decide) (judgeSource_of_overlap (hoverlaps.mpr hmeets)), fun hapart hin => ?_,
    fun hapart hout => ?_⟩
  · exact refused _ (by decide) ((judgeSource_of_apart (hoverlaps.not.mpr hapart)).trans
      (if_pos (servesAt_iff.mpr (hserves.mpr hin))))
  have hjudge : (s.asTaken r).judgeSource i e = written ((s.asTaken r).writeSource i e) .source i.val :=
    (judgeSource_of_apart (hoverlaps.not.mpr hapart)).trans
      (if_neg fun h => hserves.not.mpr hout (servesAt_iff.mp h))
  obtain ⟨hview, hpoints⟩ := writeSource_offMap (s.asTaken r) i e
  obtain ⟨t, hnext, hanswers, ht⟩ := performWrite_writes (parse := fun _ => parseSource) (own := State.judgeSource) (by decide)
    hadmits hflight hargs hparse hjudge (fun q => (port_of_offMap hview q).trans (by cases q <;> rfl))
    ((straps_of_offMap hview).trans (modPort_straps _ _ _)) ((management_of_offMap hview).trans (asTaken_management s r))
  have hmoved := remapped_point (s.asTaken r) i e
  have hscanner := writeSource_scanner (s.asTaken r) i e
  rw [← hpoints] at hmoved
  generalize (s.asTaken r).writeSource i e = u at *
  have hreach : t = { u.offMap with
      points := t.points, scanners := t.scanners, management := s.management.pointed .source i.val
      field := t.field, station := t.station } := by
    rw [ht]
    rfl
  rw [hview, asTaken_view] at hreach
  obtain ⟨htables, hentries, htpoints, htscanners⟩ := sourceSide_of_written ht
  rw [asTaken_tables, asTaken_points, asTaken_clock, asTaken_inputs, ← htpoints] at hmoved
  refine ⟨t, hnext, hanswers, hreach, fun p => point_judged (hmoved p), fun k => ?_⟩
  have hk := hscanner k
  have hgapless : u.gapless k ↔ t.gapless k := by
    unfold State.gapless
    rw [htables, hentries]
  dsimp only at hk ⊢
  rw [asTaken_tables, asTaken_scanners, ← htscanners, hgapless, ← namesTracked_or] at hk
  exact hk

end Sys2Proof.Machine
end

section
/-! Settles O14: the symbols of a frame on the line become its command (R142 to R147). -/

namespace Sys2Proof.Machine

variable {s t : State}

/-! ## The checks of a whole frame (R144, R145) -/

theorem checkFrame_frameBytes {f : Frame} (hfits : f.body.length ≤ 240) : checkFrame (frameBytes f) = .good f := by
  have hlength : (byteOf f.body.length).toNat = f.body.length := byteOf_lt (by omega)
  unfold frameBytes frameCovered
  generalize hcrc : bytes16 (crcOf (f.kind :: f.dest :: f.src :: byteOf f.body.length :: f.body)).toNat = crc
  have htwo : crc.length = 2 := by
    rw [← hcrc]
    rfl
  show checkFrame (f.kind :: f.dest :: f.src :: byteOf f.body.length :: (f.body ++ crc)) = _
  unfold checkFrame
  dsimp only
  rw [hlength, if_neg (show ¬Config.maxBody < f.body.length from Nat.not_lt.mpr hfits),
    if_neg (by rw [List.length_append, htwo]; exact fun h => h rfl), List.take_left' rfl, List.drop_left' rfl, hcrc,
    if_pos rfl]

theorem frameBytes_length (f : Frame) : (frameBytes f).length = f.body.length + 6 := by
  unfold frameBytes frameCovered
  rw [List.length_append]
  rfl

/-! ## One symbol (R142, R144) -/

/-- A port that receives, with its reception. -/
def State.hears (s : State) (p : PortId) (r : Reception) : Prop := s.receives p = true ∧ (s.port p).rx.reception = r

theorem portEvent_of_up {p : PortId} {before after : Receiver} {x : Symbol} (hup : (s.port p).status = .up)
    (hsilent : after.silentRun = 0) : s.portEvent p before after x = none := by
  have hbyteTimes : 0 ≠ s.downByteTimes := by
    unfold State.downByteTimes
    have := Nat.two_pow_pos s.straps.rate.val
    omega
  unfold State.portEvent
  dsimp only
  rw [hup, hsilent, if_neg (by simp), if_neg (by simp), if_neg fun h => hbyteTimes h.2.1]

/-- A symbol at a port that receives moves its receiver, and puts the command that it makes behind those that wait. -/
theorem feedSymbol_heard {p : PortId} {r : Reception} {x : Symbol} (h : s.hears p r) (hx : x ≠ .absent) :
    let made := receive s.panelAddress p r x
    (s.feedSymbol p x).hears p made.1 ∧ (s.feedSymbol p x).straps = s.straps ∧
      (s.feedSymbol p x).pending = s.pending ++ made.2.toList := by
  obtain ⟨hreceives, hreception⟩ := h
  have hrunning := receives_running hreceives
  have hup := receives_up hreceives
  have henqueue : ∀ (u : State) (i : Option Instr), u.enqueue i = { u with pending := u.pending ++ i.toList } := fun u i => by
    cases i with
    | none =>
      rw [Option.toList_none, List.append_nil]
      rfl
    | some i => rfl
  have hfed : s.feedSymbol p x =
      (s.modPort p fun q => { q with rx := { s.countRuns (s.port p).rx x with
        reception := (receive s.panelAddress p r x).1 } }).enqueue (receive s.panelAddress p r x).2 := by
    unfold State.feedSymbol
    rw [if_pos hrunning]
    dsimp only
    rw [if_pos hup, portEvent_of_up hup (if_neg hx), hreception]
    rfl
  dsimp only
  rw [hfed, henqueue]
  generalize (receive s.panelAddress p r x).1 = after
  generalize hv : (s.modPort p fun q => { q with rx := { s.countRuns (s.port p).rx x with reception := after } }) = v
  have hport : v.port p = { s.port p with rx := { s.countRuns (s.port p).rx x with reception := after } } := by
    rw [← hv, modPort_port]
  have hstill : v.phase = s.phase ∧ v.straps = s.straps ∧ v.pending = s.pending := by
    rw [← hv, modPort_phase, modPort_straps, modPort_pending]
    exact ⟨rfl, rfl, rfl⟩
  obtain ⟨hphase, hstraps, hpending⟩ := hstill
  have hsame : ∀ (u : State) (l : List Instr), { u with pending := l }.port p = u.port p := fun u l => by cases p <;> rfl
  refine ⟨⟨?_, ?_⟩, hstraps, ?_⟩
  · unfold State.receives
    rw [hsame, hport]
    show (decide (v.phase = .running) && decide ((s.port p).status = .up)) = true
    rw [hphase, hrunning, hup]
    rfl
  · rw [hsame, hport]
  · show v.pending ++ _ = _
    rw [hpending]

/-! ## The bytes of a frame, and the idle symbol behind them (R144, R145) -/

/-- Bytes behind a sync byte, no more than a frame holds, wait for the frame's end. -/
theorem bytes_heard {p : PortId} : ∀ (l bytes : List Byte) (s : State), s.hears p (.frame bytes 0) →
    bytes.length + l.length < 247 →
    let t := l.foldl (fun s b => s.feedSymbol p (.data b)) s
    t.hears p (.frame (bytes ++ l) 0) ∧ t.straps = s.straps ∧ t.pending = s.pending
  | [], bytes, s, h, _ => ⟨by rw [List.append_nil]; exact h, rfl, rfl⟩
  | b :: l, bytes, s, h, hfits => by
    obtain ⟨hnext, hstraps, hpending⟩ := feedSymbol_heard h (x := .data b) (by simp)
    have hmade : receive s.panelAddress p (.frame bytes 0) (.data b) = (.frame (bytes ++ [b]) 0, none) :=
      if_neg (show ¬bytes.length + 1 = 247 by rw [List.length_cons] at hfits; omega)
    rw [hmade] at hnext hpending
    obtain ⟨hlast, hstraps', hpending'⟩ := bytes_heard l (bytes ++ [b]) _ hnext
      (by rw [List.length_append, List.length_singleton]; rw [List.length_cons] at hfits; omega)
    dsimp only at hlast ⊢
    rw [List.append_assoc] at hlast
    exact ⟨hlast, hstraps'.trans hstraps, hpending'.trans (hpending.trans (List.append_nil _))⟩

/-- Settles O14. -/
theorem lineFrameBecomesCommand : Obligations.LineFrameBecomesCommand := by
  unfold Obligations.LineFrameBecomesCommand
  intro s p f hreceives hfits hidle
  obtain ⟨hsync, hstraps, hpending⟩ := feedSymbol_heard (x := .data Config.syncByte) ⟨hreceives, hidle⟩ (by simp)
  have hopens : receive s.panelAddress p .afterIdle (.data Config.syncByte) = (.frame [] 0, none) := rfl
  rw [hopens] at hsync hpending
  rw [frameOnLine, List.foldl_cons]
  generalize s.feedSymbol p (.data Config.syncByte) = u at *
  obtain ⟨hbytes, hstraps', hpending'⟩ := bytes_heard (frameBytes f) [] u hsync (by
    rw [frameBytes_length, List.length_nil]
    omega)
  generalize (frameBytes f).foldl (fun s b => s.feedSymbol p (.data b)) u = v at *
  obtain ⟨-, -, hclosed⟩ := feedSymbol_heard (x := .idle) hbytes (by simp)
  have haddress : v.panelAddress = s.panelAddress := by
    unfold State.panelAddress
    rw [hstraps', hstraps]
  have hmade : receive v.panelAddress p (.frame ([] ++ frameBytes f) 0) .idle =
      (.afterIdle, some (classifyFrame s.panelAddress p f)) := by
    show (Reception.afterIdle, some (classify v.panelAddress p (frameBytes f))) = _
    rw [classify, checkFrame_frameBytes hfits, haddress]
  rw [hclosed, hmade, hpending', hpending]
  simp

end Sys2Proof.Machine
end
